-- ==== Sys2Proof/Word.lean ====
section
/-! DEFINITION. The word types of the Wyncale 842's links (spec/11, R171). -/

namespace Sys2Proof

/-- One byte of a frame (R171). -/
abbrev Byte := BitVec 8

/-- One word of a frame, most significant byte first on the line (R171). -/
abbrev Word := BitVec 16

end Sys2Proof
end

