-- ==== Sys2Proof/Config.lean ====
section
/-! DEFINITION. What the part is made of: its eight sources, four islands, four input positions and two links
(spec/00, Numbering). The spec leaves no value of a result undefined, so there is no free value here. -/

namespace Sys2Proof

/-- A source: S1 is 0 and S8 is 7 (spec/00, Numbering). -/
abbrev Src := Fin 8

/-- An island: I1 is 0 and I4 is 3 (spec/00, Numbering). -/
abbrev Isl := Fin 4

/-- A mirror input position of an island: position 1 is 0 and position 4 is 3 (spec/00, Numbering). -/
abbrev InPos := Fin 4

/-- The two serial links (R150). -/
inductive Link where
  | desk
  | panel
deriving DecidableEq, Repr

/-- The link that is not this one (R153). -/
def Link.other : Link → Link
  | .desk => .panel
  | .panel => .desk

/-- The sources in ascending number. -/
def allSources : List Src := [0, 1, 2, 3, 4, 5, 6, 7]

/-- The islands in ascending number. -/
def allIslands : List Isl := [0, 1, 2, 3]

end Sys2Proof
end

