-- ==== Sys2Proof/Syntax.lean ====
section
/-! DEFINITION. The commands: one constructor for each row of spec/opcode_table.json. A command that a frame carries has the
port it came in by and the data bytes of its frame, laid out as R172 states; an event of the machine lines or of a
timer has the source, the island or the port it concerns. -/

namespace Sys2Proof

/-- The 61 rows of spec/opcode_table.json. -/
inductive Instr where
  /-- POWER_ON (R26). Power-on, or the release of the reset input, with the two straps as wired. -/
  | powerOn (unitAddress : BitVec 4) (primary : Link)
  /-- FRAME_PULSE (R7). A frame pulse at a source, with its direction line and the ticks since the command before it. -/
  | framePulse (x : Src) (forward : Bool) (elapsed : Nat)
  /-- SILENCE_TIMEOUT (R10). A source's silence timer expires. -/
  | silenceTimeout (x : Src)
  /-- INCH_TIMEOUT (R20). A source's inch timer expires. -/
  | inchTimeout (x : Src)
  /-- RUNUP_TIMEOUT (R107). A source's run-up timer expires. -/
  | runupTimeout (x : Src)
  /-- FILM_SENSE_LOST (R24). A source's film sense goes absent. -/
  | filmSenseLost (x : Src)
  /-- FILM_SENSE_RETURN (R24). A source's film sense goes present. -/
  | filmSenseReturn (x : Src)
  /-- LAMP_SENSE_CHANGE (R132). A source's lamp sense takes a level. -/
  | lampSenseChange (x : Src) (lit : Bool)
  /-- LOOP_SENSE_CHANGE (R25). A source's loop sense takes a level. -/
  | loopSenseChange (x : Src) (closed : Bool)
  /-- READY_INPUT_CHANGE (R5). A source's ready input takes a level. -/
  | readyInputChange (x : Src) (ready : Bool)
  /-- MIRROR_SENSE_CHANGE (R109). An island's four mirror sense lines take levels, line 1 at bit 0. -/
  | mirrorSenseChange (i : Isl) (lines : BitVec 4)
  /-- MIRROR_ATTEMPT_TIMEOUT (R119). An engine's attempt timer expires. -/
  | mirrorAttemptTimeout (i : Isl)
  /-- DRIFT_TIMEOUT (R110). An island's drift timer expires. -/
  | driftTimeout (i : Isl)
  /-- SLOT_GRANT (R103). The arbiter makes its next grant. -/
  | slotGrant
  /-- FRAME_DISCARDED (R160). A frame whose check byte differs is received at a port. -/
  | frameDiscarded (p : Link)
  /-- FRAME_IGNORED (R160). A frame for another unit address is received at a port. -/
  | frameIgnored (p : Link)
  /-- INTER_BYTE_TIMEOUT (R159). A port's inter-byte timer expires. -/
  | interByteTimeout (p : Link)
  /-- UNKNOWN_COMMAND (R162). A frame whose code names no command is taken at a port. -/
  | unknownCommand (p : Link) (code : Byte) (data : List Byte)
  /-- RESPONSE_END (R163). The last byte of a port's response has left the line. -/
  | responseEnd (p : Link)
  /-- READ_PART_STATUS (R164). A READ PART STATUS frame is taken, with its data bytes. -/
  | readPartStatus (p : Link) (data : List Byte)
  /-- READ_SOURCE (R165). A READ SOURCE frame is taken, with its data bytes. -/
  | readSource (p : Link) (data : List Byte)
  /-- READ_ISLAND (R108). A READ ISLAND frame is taken, with its data bytes. -/
  | readIsland (p : Link) (data : List Byte)
  /-- READ_CUE (R62). A READ CUE frame is taken, with its data bytes. -/
  | readCue (p : Link) (data : List Byte)
  /-- READ_CUE_SPEC (R63). A READ CUE SPEC frame is taken, with its data bytes. -/
  | readCueSpec (p : Link) (data : List Byte)
  /-- READ_RUNDOWN (R69). A READ RUNDOWN frame is taken, with its data bytes. -/
  | readRundown (p : Link) (data : List Byte)
  /-- READ_MAP (R165). A READ MAP frame is taken, with its data bytes. -/
  | readMap (p : Link) (data : List Byte)
  /-- READ_ALARMS (R145). A READ ALARMS frame is taken, with its data bytes. -/
  | readAlarms (p : Link) (data : List Byte)
  /-- READ_NOTICES (R167). A READ NOTICES frame is taken, with its data bytes. -/
  | readNotices (p : Link) (data : List Byte)
  /-- LOAD_CUE (R48). A LOAD CUE frame is taken, with its data bytes. -/
  | loadCue (p : Link) (data : List Byte)
  /-- AMEND_CUE (R56). An AMEND CUE frame is taken, with its data bytes. -/
  | amendCue (p : Link) (data : List Byte)
  /-- PLACE_CUE (R71). A PLACE CUE frame is taken, with its data bytes. -/
  | placeCue (p : Link) (data : List Byte)
  /-- WITHDRAW_CUE (R72). A WITHDRAW CUE frame is taken, with its data bytes. -/
  | withdrawCue (p : Link) (data : List Byte)
  /-- RETIRE_CUE (R57). A RETIRE CUE frame is taken, with its data bytes. -/
  | retireCue (p : Link) (data : List Byte)
  /-- CLEAR_RUNDOWN (R73). A CLEAR RUNDOWN frame is taken, with its data bytes. -/
  | clearRundown (p : Link) (data : List Byte)
  /-- SET_SEGMENT (R32). A SET SEGMENT frame is taken, with its data bytes. -/
  | setSegment (p : Link) (data : List Byte)
  /-- DROP_SEGMENT (R33). A DROP SEGMENT frame is taken, with its data bytes. -/
  | dropSegment (p : Link) (data : List Byte)
  /-- CLEAR_MAP (R34). A CLEAR MAP frame is taken, with its data bytes. -/
  | clearMap (p : Link) (data : List Byte)
  /-- CONFIGURE_SOURCE (R3). A CONFIGURE SOURCE frame is taken, with its data bytes. -/
  | configureSource (p : Link) (data : List Byte)
  /-- ZERO_COUNTER (R17). A ZERO COUNTER frame is taken, with its data bytes. -/
  | zeroCounter (p : Link) (data : List Byte)
  /-- RUN (R18). A RUN frame is taken, with its data bytes. -/
  | run (p : Link) (data : List Byte)
  /-- STOP (R19). A STOP frame is taken, with its data bytes. -/
  | stop (p : Link) (data : List Byte)
  /-- INCH_TO (R20). An INCH TO frame is taken, with its data bytes. -/
  | inchTo (p : Link) (data : List Byte)
  /-- DOWSER (R21). A DOWSER frame is taken, with its data bytes. -/
  | dowser (p : Link) (data : List Byte)
  /-- HOLD (R16). A HOLD frame is taken, with its data bytes. -/
  | hold (p : Link) (data : List Byte)
  /-- LOCKOUT (R22). A LOCKOUT frame is taken, with its data bytes. -/
  | lockout (p : Link) (data : List Byte)
  /-- CLEAR_LOCKOUT (R135). A LOCKOUT frame (code 0x37) with the action CLEAR is taken. -/
  | clearLockout (p : Link) (source : Byte)
  /-- CONFIGURE_ISLAND (R111). A CONFIGURE ISLAND frame is taken, with its data bytes. -/
  | configureIsland (p : Link) (data : List Byte)
  /-- FIRE_NOW (R117). A FIRE NOW frame is taken, with its data bytes. -/
  | fireNow (p : Link) (data : List Byte)
  /-- ABORT_CHANGEOVER (R125). An ABORT CHANGEOVER frame is taken, with its data bytes. -/
  | abortChangeover (p : Link) (data : List Byte)
  /-- CUT_TO (R123). A CUT TO frame is taken, with its data bytes. -/
  | cutTo (p : Link) (data : List Byte)
  /-- ISLAND_RESET (R128). An ISLAND RESET frame is taken, with its data bytes. -/
  | islandReset (p : Link) (data : List Byte)
  /-- ACKNOWLEDGE_ALARM (R143). An ACKNOWLEDGE ALARM frame is taken, with its data bytes. -/
  | acknowledgeAlarm (p : Link) (data : List Byte)
  /-- ACKNOWLEDGE_ALL (R144). An ACKNOWLEDGE ALL frame is taken, with its data bytes. -/
  | acknowledgeAll (p : Link) (data : List Byte)
  /-- SILENCE_BELL (R142). A SILENCE BELL frame is taken, with its data bytes. -/
  | silenceBell (p : Link) (data : List Byte)
  /-- GIVE_CONTROL (R153). A GIVE CONTROL frame is taken, with its data bytes. -/
  | giveControl (p : Link) (data : List Byte)
  /-- TAKE_CONTROL (R154). A TAKE CONTROL frame is taken, with its data bytes. -/
  | takeControl (p : Link) (data : List Byte)
  /-- SEIZE_CONTROL (R155). A SEIZE CONTROL frame is taken, with its data bytes. -/
  | seizeControl (p : Link) (data : List Byte)
  /-- NOTICE_ENABLES (R168). A NOTICE ENABLES frame is taken, with its data bytes. -/
  | noticeEnables (p : Link) (data : List Byte)
  /-- PART_RESET (R170). A PART RESET frame is taken, with its data bytes. -/
  | partReset (p : Link) (data : List Byte)
  /-- BYTE_RECEIVED (R159). A byte arrives on a port's receive line. -/
  | byteReceived (p : Link) (byte : Byte)
  /-- RESET_INPUT_ASSERTED (R174). The reset input is asserted. -/
  | resetInputAsserted
deriving DecidableEq, Repr

end Sys2Proof
end

