-- ==== Sys2Proof/Decode.lean ====
section
/-! DEFINITION. The command that a table word spells. spec/opcode_table.json gives no bits to any row, so no word spells a
command. The frames of the links are decoded in Machine/Operands.lean and Machine/Frames.lean. -/

namespace Sys2Proof

/-- The command whose table bits are `w`: none, since no row of the table has bits. -/
def decodeTableWord (_nbits _w : Nat) : Option Instr := none

end Sys2Proof
end

