-- ==== Sys2Proof/Machine/State.lean ====
section
/-! DEFINITION. The state of the part: every record, table, flag, timer, output and pin the spec gives it, as plain data,
and the values it holds right after power-on. Views that the spec derives (a source's state, the live source, the sensed
position, placed, start slot held, the bell and lamp, the attention lines) are computed in Flags.lean and Ops.lean. -/

namespace Sys2Proof.Machine

/-! ### Source units (R1) -/

/-- The type of a source (R1). -/
inductive SourceType where
  | unused | film35 | film16 | still
deriving DecidableEq, Repr

/-- The states of a source, film states in the order of R4, then UNUSED and STILL_READY (R5, R171). -/
inductive SourceState where
  | unloaded | inching | atSpeed | running | stopping | parked | threaded | unused | stillReady
deriving DecidableEq, Repr

/-- The causes of a lockout (R1). -/
inductive LockCause where
  | manual | filmBreak | lampFail | stall | runupTimeout
deriving DecidableEq, Repr

/-- Which of the conditions of R25 are present at a source. -/
structure Conds where
  lampFail : Bool
  loopLoss : Bool
  overspeed : Bool
  underspeed : Bool
  countRange : Bool
deriving DecidableEq, Repr

/-- No condition present. -/
def Conds.clear : Conds := ⟨false, false, false, false, false⟩

/-- A source record (R1) with its run-up timer (R106), the conditions present (R25) and its sense lines as the pins
stand (section 11.4). A timer is stopped, or holds the tick of the timebase at which it expires. -/
structure Source where
  stype : SourceType
  island : Option Isl
  inputPos : Option InPos
  n : Nat
  runUp : Nat
  travel : Nat
  tail : Nat
  pos : Option Int
  intervals : List Nat
  pulseRef : Option Nat
  rate : Nat
  band : Bool
  reached : Bool
  motor : Bool
  inch : Bool
  dowser : Bool
  hold : Bool
  lockout : Option LockCause
  tailStop : Option Int
  inchTarget : Option Int
  silenceTimer : Option Nat
  inchTimer : Option Nat
  runupTimer : Option Nat
  conds : Conds
  film : Bool
  loop : Bool
  lamp : Bool
  ready : Bool
  dirForward : Bool
deriving DecidableEq, Repr

/-- The power-on column of R1. The sense lines are not asserted (notes/assumptions/5.md). -/
def Source.powerOn : Source where
  stype := .unused
  island := none
  inputPos := none
  n := 2400
  runUp := 0
  travel := 0
  tail := 0
  pos := none
  intervals := []
  pulseRef := none
  rate := 0
  band := false
  reached := false
  motor := false
  inch := false
  dowser := false
  hold := false
  lockout := none
  tailStop := none
  inchTarget := none
  silenceTimer := none
  inchTimer := none
  runupTimer := none
  conds := Conds.clear
  film := false
  loop := false
  lamp := false
  ready := false
  dirForward := false

/-! ### Reel maps (R30) -/

/-- A story segment (R30). -/
structure Segment where
  tag : Nat
  first : Nat
  length : Nat
deriving DecidableEq, Repr

/-! ### The cue table (R42) -/

/-- The kinds of a cue (section 3.2). -/
inductive CueKind where
  | changeover | stop | mark
deriving DecidableEq, Repr

/-- The trigger modes (section 3.2). -/
inductive TrigMode where
  | position | take
deriving DecidableEq, Repr

/-- The end of a story an offset is counted from (R36). -/
inductive Anchor where
  | atStart | atEnd
deriving DecidableEq, Repr

/-- A trigger or picture spec, absolute in frames or by story (section 2.3). -/
inductive Spec where
  | absolute (frame : Int)
  | story (tag offset : Nat) (anchor : Anchor)
deriving DecidableEq, Repr

/-- The late policies (R42). -/
inductive LatePolicy where
  | fireAtMark | holdForPicture | abandon
deriving DecidableEq, Repr

/-- The states of a cue record (R42). -/
inductive CueState where
  | waiting | armed | rolling | ready | firing | done | missed
deriving DecidableEq, Repr

/-- The unresolved reasons (R36). -/
inductive UnresReason where
  | noMap | noTag | outOfStory
deriving DecidableEq, Repr

/-- The blocked reasons, in the order of R77. -/
inductive BlockReason where
  | unresolved | outgoingNotLive | outgoingNotRunning | incomingNotReady | incomingHeld | incomingLockedOut
  | incomingPastStart | leaderTooLong | engineBusy
deriving DecidableEq, Repr

/-- The miss causes, in the order of R54. -/
inductive MissCause where
  | passed | late | notReady | aborted | emergency | mirror | outgoingLost | incomingLost
deriving DecidableEq, Repr

/-- A cue record (R42). `placed` is the record's standing in its island's rundown (log entry 22). `fireO` is the fire position of O
as the fire decision recorded it (R52, R118); the cue image shows it within its presence of R42 (log entry 36). `metGrant` is the
model's own: the tick of the grant that ended the record MISSED LATE, for the meeting of R66 (log entry 35). -/
structure CueRec where
  id : Nat
  island : Isl
  kind : CueKind
  subject : Src
  partner : Option Src
  mode : TrigMode
  trigger : Option Spec
  picture : Option Spec
  trim : Int
  policy : Option LatePolicy
  slipLimit : Option Nat
  keep : Bool
  state : CueState
  resT : Option Int
  resQ : Option Int
  unresolved : Option UnresReason
  startPoint : Option Int
  slotRequested : Bool
  blocked : Option BlockReason
  fireO : Option Int
  fireI : Option Int
  fireErr : Option Int
  shortLeader : Bool
  lateStart : Bool
  notAtSpeed : Bool
  heldForPicture : Bool
  mapChanged : Bool
  missCause : Option MissCause
  metGrant : Option Nat
deriving DecidableEq, Repr

/-! ### Start slots (R101) -/

/-- The origin of a start request (R101). -/
inductive Origin where
  | run
  | engine (i : Isl)
deriving DecidableEq, Repr

/-- A start request: its source and its origin (R101). -/
structure Request where
  source : Src
  origin : Origin
deriving DecidableEq, Repr

/-- The start slot arbiter (R101). `due` is the model's own: the grants decided and not yet taken (log entry 3). -/
structure Arbiter where
  slot1 : Option Src
  slot2 : Option Src
  waits : List Request
  due : List Request
  pointer : Src
deriving DecidableEq, Repr

/-- The arbiter at power-on (R101). -/
def Arbiter.powerOn : Arbiter := ⟨none, none, [], [], 7⟩

/-! ### Islands and engines (R108, R112) -/

/-- An island record (R108) with the LIVE_NONE condition (R110) and its mirror sense lines as the pins stand. -/
structure Island where
  mirrorLines : BitVec 4
  protect : Option Src
  emergEnable : Bool
  margin : Nat
  control : Link
  driftTimer : Option Nat
  liveNone : Bool
deriving DecidableEq, Repr

/-- The states of an engine (R112). -/
inductive EngState where
  | idle | armed | rolling | ready | switching | returning
deriving DecidableEq, Repr

/-- The kinds of a mirror switch (R112). -/
inductive SwitchKind where
  | cue | cut | emergency
deriving DecidableEq, Repr

/-- A changeover engine (R112). -/
structure Engine where
  state : EngState
  cue : Option Nat
  window : Option Nat
  takePending : Bool
  holdPicture : Bool
  triggerReached : Bool
  switchKind : Option SwitchKind
  drive : Option InPos
  attempts : Option Nat
  attemptTimer : Option Nat
  returnPos : Option InPos
  origin : Option (Option Src)
deriving DecidableEq, Repr

/-- The power-on column of R112, which is also an engine returned to IDLE. -/
def Engine.idle : Engine := ⟨.idle, none, none, false, false, false, none, none, none, none, none, none⟩

/-! ### Alarms (R136) -/

/-- The object of an alarm (R136). -/
inductive AlarmObj where
  | source (x : Src)
  | island (i : Isl)
deriving DecidableEq, Repr

/-- The source causes in the order of R130, then the island causes in the order of R133. -/
inductive Cause where
  | filmBreak | runout | stall | lampFail | loopLoss | overspeed | underspeed | runupTimeout | inchTimeout | countRange
  | mirrorFault | liveNone | cueMissed | cueSlip | emergencyTaken | noProtect
deriving DecidableEq, Repr

/-- The severities (R136). -/
inductive Severity where
  | urgent | warning
deriving DecidableEq, Repr

/-- The states of an alarm record (R136). -/
inductive AlarmState where
  | raised | standing | cleared
deriving DecidableEq, Repr

/-- An alarm record (R136). -/
structure AlarmRec where
  object : AlarmObj
  cause : Cause
  severity : Severity
  state : AlarmState
  count : Nat
  captured : Option Int
  cueId : Option Nat
deriving DecidableEq, Repr

/-- The alarm unit (R136). The bell and lamp are computed (R141). -/
structure AlarmUnit where
  records : List AlarmRec
  overflow : Bool
  silence : Bool
deriving DecidableEq, Repr

/-! ### Link ports (R158) -/

/-- A notice: its kind and its object (R166). -/
inductive Notice where
  | cue (id : Nat)
  | source (x : Src)
  | island (i : Isl)
  | alarm (o : AlarmObj) (c : Cause)
deriving DecidableEq, Repr

/-- The reception states of a port (R158). -/
inductive Recv where
  | hunt | receive | answer
deriving DecidableEq, Repr

/-- A port (R158). `buf` is the address, code, count and up to 32 data bytes; `received` counts the bytes since SYNC.
`response` is the response frame on its way out (R163); `resetPending` marks an accepted PART RESET (R170). -/
structure Port where
  recv : Recv
  buf : List Byte
  received : Nat
  check : Byte
  interByte : Option Nat
  notices : List Notice
  overflow : Bool
  enCue : Bool
  enSource : Bool
  enIsland : Bool
  enAlarm : Bool
  restart : Bool
  response : List Byte
  resetPending : Bool
deriving DecidableEq, Repr

/-- The power-on column of R158. -/
def Port.powerOn : Port := ⟨.hunt, [], 0, 0, none, [], false, true, true, true, true, true, [], false⟩

/-! ### The part -/

/-- The whole state of the part, and the queue of the commands that wait. -/
structure State where
  sources : Vector Source 8
  maps : Vector (List Segment) 8
  cues : List CueRec
  rundowns : Vector (List Nat) 4
  arbiter : Arbiter
  islands : Vector Island 4
  engines : Vector Engine 4
  alarms : AlarmUnit
  desk : Port
  panel : Port
  unitAddress : BitVec 4
  primaryLink : Link
  strapAddress : BitVec 4
  strapPrimary : Link
  resetAsserted : Bool
  now : Nat
  pending : List Instr
deriving DecidableEq, Repr

/-- Nothing in the spec stops the part: a command it cannot carry out is refused with a status code in its response
(R162) and the part goes on. There is no machine fault. -/
inductive Fault where
deriving DecidableEq, Repr

/-- The reasons for which a command has no meaning. -/
inductive Refusal where
  /-- Raised by an arm of `exec` whose row has no meaning yet. Safe: the model stops where the part goes on. -/
  | notModelled (mnemonic : String)
deriving DecidableEq, Repr

/-- An island record at power-on, with the primary link in control (R108, R150). No mirror line is asserted, so the
sensed position is BETWEEN and the drift timer runs toward 600 ms (R110, notes/assumptions/5.md). -/
def Island.reset : Island := ⟨0, none, false, 0, .desk, some 6000, false⟩

/-- The part right after power-on (R26, R170): every source UNUSED, every table empty, every output off, every engine
IDLE, both straps read, an empty queue. -/
def State.reset : State where
  sources := Vector.replicate 8 Source.powerOn
  maps := Vector.replicate 8 []
  cues := []
  rundowns := Vector.replicate 4 []
  arbiter := Arbiter.powerOn
  islands := Vector.replicate 4 Island.reset
  engines := Vector.replicate 4 Engine.idle
  alarms := ⟨[], false, false⟩
  desk := Port.powerOn
  panel := Port.powerOn
  unitAddress := 0
  primaryLink := .desk
  strapAddress := 0
  strapPrimary := .desk
  resetAsserted := false
  now := 0
  pending := []

end Sys2Proof.Machine
end

