-- ==== Sys2Proof/Machine/Limits.lean ====
section
/-! DEFINITION. The figures the spec fixes: spans of timers in ticks of 0.1 ms, capacities, and ranges. -/

namespace Sys2Proof.Machine

/-- The lowest position (spec/00, Positions). -/
def posMin : Int := -8192

/-- The highest position (spec/00, Positions). -/
def posMax : Int := 131071

/-- A position held within the counter's range (R7, R37). -/
def clampPos (p : Int) : Int := max posMin (min posMax p)

/-- A position lies in the counter's range. -/
def inPosRange (p : Int) : Bool := posMin ≤ p && p ≤ posMax

/-- Ticks of the timebase in a millisecond: it ticks every 0.1 ms (spec/00, Times). -/
def ticksPerMs : Nat := 10

/-- 1000 ms after the last pulse (R10). -/
def silenceSpan : Nat := 1000 * ticksPerMs

/-- 30 s after inching began (R20). -/
def inchSpan : Nat := 30000 * ticksPerMs

/-- max(2 × U, 2000) ms after the grant (R106). -/
def runupSpan (runUp : Nat) : Nat := max (2 * runUp) 2000 * ticksPerMs

/-- 600 ms after a drive is issued (R119). -/
def attemptSpan : Nat := 600 * ticksPerMs

/-- 600 ms after the drift timer starts (R110). -/
def driftSpan : Nat := 600 * ticksPerMs

/-- 20 ms after the last byte received (R158). -/
def interByteSpan : Nat := 20 * ticksPerMs

/-- The cue table holds at most 128 records (R43). -/
def maxCues : Nat := 128

/-- A rundown holds at most 32 entries (R68). -/
def maxRundown : Nat := 32

/-- A reel map holds at most 12 segments (R30). -/
def maxSegments : Nat := 12

/-- The alarm table holds at most 24 records (R136). -/
def maxAlarms : Nat := 24

/-- A notice set holds at most 32 entries (R166). -/
def maxNotices : Nat := 32

/-- A raise count stops at 99 (R136). -/
def maxRaises : Nat := 99

/-- The longest leader, in frames (R77 test 8, R88). -/
def maxLeader : Int := 4800

end Sys2Proof.Machine
end

