-- ==== Sys2Proof/Machine/Operands.lean ====
section
/-! DEFINITION. The operand forms of the frames (R27 to R29, R171): bytes, words, numbers of sources and islands, positions in
FRAMES and FEET form, and specs, each read from the data of a command and written into the data of a response. -/

namespace Sys2Proof.Machine

/-! ### Reading fields -/

/-- A data byte by its place. -/
def byteAt (d : List Byte) (k : Nat) : Byte := d.getD k 0

/-- An unsigned byte field. -/
def natAt (d : List Byte) (k : Nat) : Nat := (byteAt d k).toNat

/-- A word field, most significant byte first (R171). -/
def wordAt (d : List Byte) (k : Nat) : Nat := 256 * natAt d k + natAt d (k + 1)

/-- A signed byte field (R171). -/
def signedAt (d : List Byte) (k : Nat) : Int := (byteAt d k).toInt

/-- The source a number names: 1 to 8 (R171). -/
def srcOf (n : Nat) : Option Src := if 1 ≤ n && n ≤ 8 then some (Fin.ofNat 8 (n - 1)) else none

/-- The island a number names: 1 to 4 (R171). -/
def islOf (n : Nat) : Option Isl := if 1 ≤ n && n ≤ 4 then some (Fin.ofNat 4 (n - 1)) else none

/-- The input position a number names: 1 to 4 (R171). -/
def inPosOf (n : Nat) : Option InPos := if 1 ≤ n && n ≤ 4 then some (Fin.ofNat 4 (n - 1)) else none

/-- A cue id: 1 to 999 (R42). -/
def cueIdOf (n : Nat) : Option Nat := if 1 ≤ n && n ≤ 999 then some n else none

/-! ### Position forms (R27 to R29) -/

/-- The form of the positions of a command or a read (R171). -/
inductive Form where
  | frames | feet
deriving DecidableEq, Repr

/-- A form byte: 0 for FRAMES, 1 for FEET; any other value is refused (section 10.4). -/
def formOf (n : Nat) : Option Form := if n = 0 then some .frames else if n = 1 then some .feet else none

/-- A signed magnitude. -/
def signed (negative : Bool) (magnitude : Nat) : Int := if negative then -(magnitude : Int) else magnitude

/-- A position in FRAMES form: a 24-bit two's complement count (R171). -/
def framesPos (a b c : Byte) : Int := (a ++ b ++ c).toInt

/-- The sign of a FEET form: bit 15 of its word (R171). -/
def feetSign (a : Byte) : Bool := a.msb

/-- The foot count of a FEET form: bits 12 to 0 of its word (R171). Bits 14 and 13 are not read. -/
def feetCount (a b : Byte) : Nat := 256 * (a.toNat % 32) + b.toNat

/-- A position in FEET form on a gauge of `fpf` frames a foot (R27): the frames part must be below `fpf`. -/
def feetPos (fpf : Nat) (a b c : Byte) : Option Int :=
  if c.toNat < fpf then some (signed (feetSign a) (feetCount a b * fpf + c.toNat)) else none

/-- The three bytes of an absent position (R171). -/
def absentPos : List Byte := [0x7F, 0xFF, 0xFF]

/-- A position argument on a source's gauge, `none` where the command is refused BAD_VALUE (R27, R28, R171). -/
def posArg (form : Form) (fpf : Option Nat) (a b c : Byte) : Option Int :=
  if [a, b, c] = absentPos then none
  else
    let value : Option Int :=
      match form with
      | .frames => some (framesPos a b c)
      | .feet => fpf.bind (fun g => feetPos g a b c)
    value.filter inPosRange

/-- A position argument at a place of the data. -/
def posAt (form : Form) (fpf : Option Nat) (d : List Byte) (k : Nat) : Option Int :=
  posArg form fpf (byteAt d k) (byteAt d (k + 1)) (byteAt d (k + 2))

/-! ### Specs (section 2.3, R171) -/

/-- A spec field as it stands in a frame. -/
inductive SpecArg where
  | absent
  | given (spec : Option Spec)
deriving DecidableEq, Repr

/-- A story spec with a tag of 1 to 4095 (section 2.3). -/
def storyArg (tag offset : Nat) (anchor : Anchor) : Option Spec :=
  if 1 ≤ tag && tag ≤ 4095 then some (.story tag offset anchor) else none

/-- A spec field: absent, or given with its value, which is `none` where it is refused BAD_VALUE (R171). -/
def specAt (form : Form) (fpf : Option Nat) (d : List Byte) (k : Nat) : SpecArg :=
  match natAt d k with
  | 0 => .absent
  | 1 => .given ((posAt form fpf d (k + 1)).map Spec.absolute)
  | 2 => .given (storyArg (wordAt d (k + 1)) (wordAt d (k + 3)) .atStart)
  | 3 => .given (storyArg (wordAt d (k + 1)) (wordAt d (k + 3)) .atEnd)
  | _ => .given none

/-! ### Writing fields -/

/-- An unsigned byte. -/
def byteOf (n : Nat) : Byte := BitVec.ofNat 8 n

/-- A word, most significant byte first (R171). -/
def wordBytes (n : Nat) : List Byte := [byteOf (n / 256), byteOf n]

/-- A signed word, most significant byte first (R171). -/
def signedWordBytes (e : Int) : List Byte := wordBytes (BitVec.ofInt 16 e).toNat

/-- The number of a source, an island or an input position: one above its index. -/
def numOf {n : Nat} (x : Fin n) : Nat := x.val + 1

/-- The number of something that may be absent: 0 for none (R171). -/
def numOpt {n : Nat} (x : Option (Fin n)) : Nat := (x.map numOf).getD 0

/-- A present position in FRAMES form (R171). -/
def framesBytes (p : Int) : List Byte :=
  let w := (BitVec.ofInt 24 p).toNat
  [byteOf (w / 65536), byteOf (w / 256), byteOf w]

/-- A present position in FEET form (R29, R171). -/
def feetBytes (fpf : Nat) (p : Int) : List Byte :=
  wordBytes ((if p < 0 then 32768 else 0) + p.natAbs / fpf) ++ [byteOf (p.natAbs % fpf)]

/-- A position in a response, on a source's gauge (R29, R171). A source with no gauge has no position to report. -/
def posBytes (form : Form) (fpf : Option Nat) (p : Option Int) : List Byte :=
  match form, p, fpf with
  | _, none, _ => absentPos
  | .frames, some p, _ => framesBytes p
  | .feet, some p, some g => feetBytes g p
  | .feet, some _, none => absentPos

/-- A bit of a flags byte. -/
def flagBit (b : Bool) (k : Nat) : Nat := if b then 2 ^ k else 0

/-- A spec in a response (R63, R171). DESIGN CHOICE: the bytes after kind byte 0 are zeros (notes/assumptions/41.md). -/
def specBytes (form : Form) (fpf : Option Nat) : Option Spec → List Byte
  | none => [0, 0, 0, 0, 0]
  | some (.absolute p) => [1] ++ posBytes form fpf (some p) ++ [0]
  | some (.story tag offset .atStart) => [2] ++ wordBytes tag ++ wordBytes offset
  | some (.story tag offset .atEnd) => [3] ++ wordBytes tag ++ wordBytes offset

end Sys2Proof.Machine
end

