-- ==== Sys2Proof/Machine/Flags.lean ====
section
/-! DEFINITION. Every flag, rate, condition test and derived view of one record: the source states, the measured rate and the
speed band, auto-safe, the conditions of R25, crossings, the mirror sense reading, the alarm severities, the bell and
lamp, the attention line and the frame check. -/

namespace Sys2Proof.Machine

/-! ### Sources -/

/-- Frames per foot of a gauge; a still or UNUSED source has none (R1). -/
def SourceType.fpf : SourceType → Option Nat
  | .film35 => some 16
  | .film16 => some 40
  | .still | .unused => none

/-- A film source is of type FILM35 or FILM16 (R1). -/
def Source.isFilm (x : Source) : Bool := x.stype == .film35 || x.stype == .film16

/-- A still source. -/
def Source.isStill (x : Source) : Bool := x.stype == .still

/-- A configured source is of any type other than UNUSED (R1). -/
def Source.configured (x : Source) : Bool := x.stype != .unused

/-- The state of a film source: the first of R4 whose condition holds. -/
def Source.filmState (x : Source) : SourceState :=
  if !x.film then .unloaded
  else if x.inch then .inching
  else if x.motor && x.band then .atSpeed
  else if x.motor then .running
  else if x.rate > 0 then .stopping
  else if x.pos.isSome then .parked
  else .threaded

/-- The state of a source (R4, R5). It is derived and not stored. -/
def Source.state (x : Source) : SourceState :=
  match x.stype with
  | .unused => .unused
  | .still => if x.ready then .stillReady else .unloaded
  | .film35 | .film16 => x.filmState

/-- RUNNING or AT_SPEED. -/
def Source.isRunning (x : Source) : Bool := x.state == .running || x.state == .atSpeed

/-- The things whose change posts a SOURCE notice (R6), but for the slot flag, which the arbiter's operations post. -/
def Source.view (x : Source) :
    SourceState × Bool × Bool × Option LockCause × Bool × Bool × Bool × Bool × Bool :=
  (x.state, x.pos.isSome, x.hold, x.lockout, x.tailStop.isSome, x.inchTarget.isSome, x.motor, x.inch, x.dowser)

/-- The distance of two rates. -/
def rateDiff (a b : Nat) : Nat := (a - b) + (b - a)

/-- The interval of a pulse: the ticks since the reference, held within 1 to 65535 (R9 step 1). -/
def pulseInterval (reference now : Nat) : Nat := max 1 (min 65535 (now - reference))

/-- The interval store after one more interval: the 8 most recent, oldest first (R9 step 2). -/
def pushInterval (store : List Nat) (d : Nat) : List Nat :=
  (if store.length ≥ 8 then store.drop (store.length - 7) else store) ++ [d]

/-- The measured rate of a store of k intervals with sum Σ: floor((k × 1,000,000 + floor(Σ/2)) / Σ), at most 6000
(R9 step 3). -/
def measuredRate (store : List Nat) : Nat := min 6000 ((store.length * 1000000 + store.sum / 2) / store.sum)

/-- The band flag after a rate sample r made of k intervals (R11). -/
def bandAfter (motor band : Bool) (k r n : Nat) : Bool :=
  motor && (if band then rateDiff r n ≤ n / 25 else k == 8 && rateDiff r n ≤ n / 50)

/-- The auto-safe test: 5 × r < 2 × n (R14). -/
def autoSafe (r n : Nat) : Bool := 5 * r < 2 * n

/-- A film source whose dowser may not be open: too slow, or with no film (R14). -/
def Source.filmDark (x : Source) : Bool := x.isFilm && (autoSafe x.rate x.n || !x.film)

/-- An open request that R14 does not carry out. -/
def Source.openBarred (x : Source) : Bool := x.filmDark || x.lockout.isSome || !x.configured

/-- A forward update crosses a target: it starts below it and ends at or beyond it (R7). -/
def crosses (before after : Option Int) (target : Int) : Bool :=
  match before, after with
  | some b, some a => b < target && target ≤ a
  | _, _ => false

/-- The counter after one pulse, held within its range (R7 step 3). -/
def countPulse (forward : Bool) (p : Int) : Int := if forward then min posMax (p + 1) else max posMin (p - 1)

/-! ### The conditions of R25 -/

/-- The conditions, in the order of R25. -/
inductive Cond where
  | lampFail | loopLoss | overspeed | underspeed | countRange
deriving DecidableEq, Repr

/-- Every condition, in the order of R25. -/
def allConds : List Cond := [.lampFail, .loopLoss, .overspeed, .underspeed, .countRange]

/-- A condition's presence. -/
def Conds.get (k : Conds) : Cond → Bool
  | .lampFail => k.lampFail
  | .loopLoss => k.loopLoss
  | .overspeed => k.overspeed
  | .underspeed => k.underspeed
  | .countRange => k.countRange

/-- The conditions with one of them begun or ended. -/
def Conds.put (k : Conds) (b : Bool) : Cond → Conds
  | .lampFail => { k with lampFail := b }
  | .loopLoss => { k with loopLoss := b }
  | .overspeed => { k with overspeed := b }
  | .underspeed => { k with underspeed := b }
  | .countRange => { k with countRange := b }

/-- The cause a condition is raised under (R130). -/
def Cond.cause : Cond → Cause
  | .lampFail => .lampFail
  | .loopLoss => .loopLoss
  | .overspeed => .overspeed
  | .underspeed => .underspeed
  | .countRange => .countRange

/-- The test of a condition at a source, live or not (R25, R8). It never holds at a source that is not a film source. -/
def Source.condTest (x : Source) (live : Bool) : Cond → Bool
  | .lampFail => x.isFilm && !x.lamp && (x.motor || live)
  | .loopLoss => x.isFilm && !x.loop && x.motor
  | .overspeed => x.isFilm && x.rate > x.n + x.n / 10
  | .underspeed => x.isFilm && live && x.reached && x.rate < x.n - x.n / 25
  | .countRange => x.isFilm && (x.pos == some posMin || x.pos == some posMax)

/-- The severity of a condition's raise: LAMP_FAIL is URGENT at a live source (R130). -/
def Cond.severity (c : Cond) (live : Bool) : Severity := if c == .lampFail && live then .urgent else .warning

/-- A source has an emergency-class fault present (R134). -/
def Source.emergencyFault (x : Source) : Bool :=
  x.lockout == some .filmBreak || x.lockout == some .stall || x.lockout == some .lampFail || x.conds.lampFail

/-! ### The mirror -/

/-- The reading of the four mirror sense lines: position k when line k alone is asserted, otherwise BETWEEN (R174). -/
def mirrorReading (lines : BitVec 4) : Option InPos :=
  if lines = 1 then some 0 else if lines = 2 then some 1 else if lines = 4 then some 2
  else if lines = 8 then some 3 else none

/-- The sensed position of an island (R108). -/
def Island.sensed (x : Island) : Option InPos := mirrorReading x.mirrorLines

/-- A move is in progress while the engine is SWITCHING or RETURNING (R110). -/
def Engine.moving (e : Engine) : Bool := e.state == .switching || e.state == .returning

/-- The engine holds a current cue in ARMED, ROLLING or READY. -/
def Engine.carrying (e : Engine) : Bool := e.state == .armed || e.state == .rolling || e.state == .ready

/-- The things whose change posts an ISLAND notice (R112). -/
def Engine.view (e : Engine) : EngState × Option Nat × Bool × Bool × Bool × Option Nat :=
  (e.state, e.cue, e.takePending, e.holdPicture, e.triggerReached, e.attempts)

/-! ### Cues -/

/-- The record is past ARMED and has not ended. -/
def CueState.inFlight : CueState → Bool
  | .rolling | .ready | .firing => true
  | .waiting | .armed | .done | .missed => false

/-- The record has ended (R51). -/
def CueState.ended : CueState → Bool
  | .done | .missed => true
  | .waiting | .armed | .rolling | .ready | .firing => false

/-- A record is resolved when no spec of it failed (R37). -/
def CueRec.resolved (c : CueRec) : Bool := c.unresolved.isNone

/-- A source is a party to a cue when it is its subject or its partner (R1). -/
def CueRec.names (c : CueRec) (x : Src) : Bool := c.subject == x || c.partner == some x

/-- The fire error, held within −32768 to 32767 (R52). -/
def clampErr (e : Int) : Int := max (-32768) (min 32767 e)

/-! ### Alarms -/

/-- The condition causes; every other cause is an event (R130, R133). -/
def Cause.isCondition : Cause → Bool
  | .lampFail | .loopLoss | .overspeed | .underspeed | .countRange | .liveNone => true
  | .filmBreak | .runout | .stall | .runupTimeout | .inchTimeout | .mirrorFault | .cueMissed | .cueSlip
  | .emergencyTaken | .noProtect => false

/-- The causes raised for a source (R130); the others are raised for an island (R133). -/
def Cause.ofSource : Cause → Bool
  | .filmBreak | .runout | .stall | .lampFail | .loopLoss | .overspeed | .underspeed | .runupTimeout | .inchTimeout
  | .countRange => true
  | .mirrorFault | .liveNone | .cueMissed | .cueSlip | .emergencyTaken | .noProtect => false

/-- RAISED or CLEARED. -/
def AlarmRec.unseen (r : AlarmRec) : Bool := r.state == .raised || r.state == .cleared

/-- The bell output (R141). -/
def AlarmUnit.bell (a : AlarmUnit) : Bool :=
  (a.records.any (fun r => r.severity == .urgent && r.unseen) || a.overflow) && !a.silence

/-- The settings of the lamp output (R141). -/
inductive Lamp where
  | off | steady | flashing
deriving DecidableEq, Repr

/-- The lamp output (R141). -/
def AlarmUnit.lamp (a : AlarmUnit) : Lamp :=
  if a.records.any AlarmRec.unseen || a.overflow then .flashing
  else if a.records.any (fun r => r.state == .standing) then .steady
  else .off

/-! ### Ports -/

/-- The attention line (R169). -/
def Port.attention (q : Port) : Bool := !q.notices.isEmpty || q.overflow

/-- One shift of the running check toward its most significant end (R161 step 2). -/
def crcShift (c : Byte) : Byte := if c.msb then (c <<< 1) ^^^ 0x31 else c <<< 1

/-- A byte folded into the running check (R161). -/
def crcFold (c b : Byte) : Byte :=
  crcShift (crcShift (crcShift (crcShift (crcShift (crcShift (crcShift (crcShift (c ^^^ b))))))))

/-- The check over a run of bytes (R161). -/
def crc (bytes : List Byte) : Byte := bytes.foldl crcFold 0

end Sys2Proof.Machine
end

