-- ==== Sys2Proof/Machine/Preroll.lean ====
section
/-! DEFINITION. The preroll arithmetic (R88 to R90, R96): leader, incoming time, window, outgoing span, start point, slip. -/

namespace Sys2Proof.Machine

/-- A division rounded up. -/
def ceilDiv (a b : Nat) : Nat := (a + b - 1) / b

/-- Stage 1: the leader L = q − s, taken as D when it is shorter (R88). -/
def leaderFrames (q s : Int) (travel : Nat) : Nat := max travel (q - s).toNat

/-- The leader is shorter than the run-up travel, which sets SHORT_LEADER (R88). -/
def leaderShort (q s : Int) (travel : Nat) : Bool := q - s < (travel : Int)

/-- Stage 2: the incoming time U + ceil((L − D) × 100000 / n) ms (R89). -/
def incomingTime (runUp leader travel n : Nat) : Nat := runUp + ceilDiv ((leader - travel) * 100000) n

/-- Stage 3: the window T_I + M ms (R89). -/
def windowMs (inTime margin : Nat) : Nat := inTime + margin

/-- Stage 4: the outgoing span ceil(W × r_O / 100000) frames (R90). -/
def outgoingSpan (window rate : Nat) : Nat := ceilDiv (window * rate) 100000

/-- Stage 5: the start point t − F, at least −8192 (R90). -/
def startPointOf (t : Int) (span : Nat) : Int := max posMin (t - (span : Int))

/-- The rate used for O: measured when AT_SPEED, nominal otherwise (R87). -/
def outgoingRate (o : Source) : Nat := if o.state == .atSpeed then o.rate else o.n

/-- What a computation of the start point finds: a, W and SHORT_LEADER (R87). -/
structure Preroll where
  start : Int
  window : Nat
  short : Bool
deriving DecidableEq, Repr

/-- The five stages in order (R87). -/
def prerollOf (t q s : Int) (o inc : Source) (margin : Nat) : Preroll :=
  let leader := leaderFrames q s inc.travel
  let window := windowMs (incomingTime inc.runUp leader inc.travel inc.n) margin
  ⟨startPointOf t (outgoingSpan window (outgoingRate o)), window, leaderShort q s inc.travel⟩

/-- The slip at the grant: F′ − (t − p_O) (R96). -/
def slipAt (window : Nat) (o : Source) (t pO : Int) : Int := (outgoingSpan window (outgoingRate o) : Int) - (t - pO)

end Sys2Proof.Machine
end

