-- ==== Sys2Proof/Machine/Ops.lean ====
section
/-! DEFINITION. The named operations over the state: one accessor and one update for each record, notices, the alarm table,
the arbiter, the outputs of a source with their precedence, lockout, and the conditions of R25. Every operation that changes
something a rule reports posts the notice of that rule, so that the meanings need not. -/

namespace Sys2Proof.Machine

/-! ### Accessors and plain updates -/

/-- The record of a source. -/
def State.src (s : State) (x : Src) : Source := s.sources[x]

/-- A source record replaced. -/
def State.setSrc (s : State) (x : Src) (v : Source) : State := { s with sources := s.sources.set x v }

/-- The reel map of a source. -/
def State.map (s : State) (x : Src) : List Segment := s.maps[x]

/-- A reel map replaced. -/
def State.setMap (s : State) (x : Src) (v : List Segment) : State := { s with maps := s.maps.set x v }

/-- The rundown of an island. -/
def State.rundown (s : State) (i : Isl) : List Nat := s.rundowns[i]

/-- A rundown replaced. -/
def State.setRundown (s : State) (i : Isl) (v : List Nat) : State := { s with rundowns := s.rundowns.set i v }

/-- The record of an island. -/
def State.isl (s : State) (i : Isl) : Island := s.islands[i]

/-- An island record replaced. -/
def State.setIsl (s : State) (i : Isl) (v : Island) : State := { s with islands := s.islands.set i v }

/-- The engine of an island. -/
def State.eng (s : State) (i : Isl) : Engine := s.engines[i]

/-- An engine replaced. -/
def State.setEng (s : State) (i : Isl) (v : Engine) : State := { s with engines := s.engines.set i v }

/-- A port. -/
def State.port (s : State) : Link → Port
  | .desk => s.desk
  | .panel => s.panel

/-- A port replaced. -/
def State.setPort (s : State) (p : Link) (v : Port) : State :=
  match p with
  | .desk => { s with desk := v }
  | .panel => { s with panel := v }

/-- The record with a cue id. -/
def State.cue (s : State) (id : Nat) : Option CueRec := s.cues.find? (fun c => c.id == id)

/-- The record of an engine's current cue (R112). -/
def State.current (s : State) (i : Isl) : Option CueRec := (s.eng i).cue.bind s.cue

/-- The timebase moved on to a tick, never back. -/
def State.reachTick (s : State) (t : Nat) : State := { s with now := max s.now t }

/-! ### Derived views -/

/-- A source is configured to an input position of an island. -/
def Source.faces (x : Source) (i : Isl) (k : InPos) : Bool := x.configured && x.island == some i && x.inputPos == some k

/-- The source assigned to an input position of an island (R109). -/
def State.sourceAt (s : State) (i : Isl) (k : InPos) : Option Src := allSources.find? (fun x => (s.src x).faces i k)

/-- The live source of an island, none for NONE (R109). -/
def State.live (s : State) (i : Isl) : Option Src := (s.isl i).sensed.bind (s.sourceAt i)

/-- A source is the live source of its island. -/
def State.isLive (s : State) (x : Src) : Bool :=
  match (s.src x).island with
  | some i => s.live i == some x
  | none => false

/-- A cue stands in its island's rundown (R42). -/
def State.placed (s : State) (c : CueRec) : Bool := (s.rundown c.island).contains c.id

/-- The record at the head of an island's rundown (R68). -/
def State.head (s : State) (i : Isl) : Option CueRec := (s.rundown i).head?.bind s.cue

/-- The source is a party to the current cue of its island's engine. -/
def State.inFlightParty (s : State) (x : Src) : Bool :=
  match (s.src x).island.bind s.current with
  | some c => c.names x
  | none => false

/-- The source is the partner of the current cue of its island's engine (R18, R20). -/
def State.isIncoming (s : State) (x : Src) : Bool :=
  match (s.src x).island.bind s.current with
  | some c => c.partner == some x
  | none => false

/-- A source holds a start slot (R1, R103). -/
def State.slotHeld (s : State) (x : Src) : Bool := s.arbiter.slot1 == some x || s.arbiter.slot2 == some x

/-! ### Notices (R166) -/

/-- The enable of a notice's kind at a port. -/
def Port.admits (q : Port) : Notice → Bool
  | .cue _ => q.enCue
  | .source _ => q.enSource
  | .island _ => q.enIsland
  | .alarm _ _ => q.enAlarm

/-- A port takes a notice: dropped by its enable, coalesced, lost to a full set, or added at the end (R166). -/
def Port.post (q : Port) (m : Notice) : Port :=
  if !q.admits m then q
  else if q.notices.contains m then q
  else if q.notices.length ≥ maxNotices then { q with overflow := true }
  else { q with notices := q.notices ++ [m] }

/-- A notice posted to both ports (R166). -/
def State.post (s : State) (m : Notice) : State := { s with desk := s.desk.post m, panel := s.panel.post m }

/-- A notice posted when something changed. -/
def State.postIf (s : State) (b : Bool) (m : Notice) : State := if b then s.post m else s

/-- A source record changed, with the SOURCE notice of R6 when something it lists changed. -/
def State.modSrc (s : State) (x : Src) (f : Source → Source) : State :=
  (s.setSrc x (f (s.src x))).postIf ((f (s.src x)).view != (s.src x).view) (.source x)

/-- An engine changed, with the ISLAND notice of R112 when something it lists changed. -/
def State.modEng (s : State) (i : Isl) (f : Engine → Engine) : State :=
  (s.setEng i (f (s.eng i))).postIf ((f (s.eng i)).view != (s.eng i).view) (.island i)

/-- A cue record changed without a notice. -/
def State.setCue (s : State) (id : Nat) (f : CueRec → CueRec) : State :=
  { s with cues := s.cues.map (fun c => if c.id == id then f c else c) }

/-- A cue record changed, with a CUE notice when it is another record than before (section 10.5). -/
def State.modCue (s : State) (id : Nat) (f : CueRec → CueRec) : State :=
  (s.setCue id f).postIf ((s.cue id).any (fun c => f c != c)) (.cue id)

/-! ### The alarm table -/

/-- The record of an object and a cause (R136). -/
def State.alarm (s : State) (o : AlarmObj) (c : Cause) : Option AlarmRec :=
  s.alarms.records.find? (fun r => r.object == o && r.cause == c)

/-- The key of an alarm record. -/
def AlarmRec.isKey (r : AlarmRec) (o : AlarmObj) (c : Cause) : Bool := r.object == o && r.cause == c

/-- A record raised again (R137, R138, R139). -/
def AlarmRec.again (r : AlarmRec) (sev : Severity) (cueId : Option Nat) : AlarmRec :=
  { r with severity := if sev == .urgent then .urgent else r.severity, state := .raised,
           count := min maxRaises (r.count + 1), cueId := cueId <|> r.cueId }

/-- The record with a key changed. -/
def State.setAlarm (s : State) (o : AlarmObj) (c : Cause) (f : AlarmRec → AlarmRec) : State :=
  { s with alarms := { s.alarms with records := s.alarms.records.map (fun r => if r.isKey o c then f r else r) } }

/-- A raise (R137 to R140): a new record, a record raised again, or the overflow flag when the table is full. Every raise
clears the silence flag. -/
def State.raise (s : State) (o : AlarmObj) (c : Cause) (sev : Severity) (captured : Option Int) (cueId : Option Nat) :
    State :=
  let s := { s with alarms := { s.alarms with silence := false } }
  match s.alarm o c with
  | some r =>
    (s.setAlarm o c (fun r => r.again sev cueId)).postIf (r.state != .raised || r.count < maxRaises) (.alarm o c)
  | none =>
    if s.alarms.records.length < maxAlarms then
      ({ s with alarms := { s.alarms with
          records := s.alarms.records ++ [⟨o, c, sev, .raised, 1, captured, cueId⟩] } } : State).post (.alarm o c)
    else ({ s with alarms := { s.alarms with overflow := true } } : State).post (.alarm o c)

/-- A record leaves the table, and the overflow flag clears (R140). -/
def State.retireAlarm (s : State) (o : AlarmObj) (c : Cause) : State :=
  ({ s with alarms := { s.alarms with
      records := s.alarms.records.filter (fun r => !r.isKey o c), overflow := false } } : State).post (.alarm o c)

/-- A condition ends: a RAISED record becomes CLEARED, a STANDING one is retired (R138). -/
def State.endAlarm (s : State) (o : AlarmObj) (c : Cause) : State :=
  match s.alarm o c with
  | none => s
  | some r =>
    match r.state with
    | .raised => (s.setAlarm o c (fun r => { r with state := .cleared })).post (.alarm o c)
    | .standing => s.retireAlarm o c
    | .cleared => s

/-- A record is acknowledged (R138, R139). -/
def State.ackAlarm (s : State) (r : AlarmRec) : State :=
  if r.cause.isCondition then
    match r.state with
    | .raised => (s.setAlarm r.object r.cause (fun r => { r with state := .standing })).post (.alarm r.object r.cause)
    | .standing => s
    | .cleared => s.retireAlarm r.object r.cause
  else s.retireAlarm r.object r.cause

/-- A raise for a source, with the position it holds now (R136). -/
def State.raiseSource (s : State) (x : Src) (c : Cause) (sev : Severity) : State :=
  s.raise (.source x) c sev (s.src x).pos none

/-- A raise for an island, with the live source's position (R136) and the cue id the cause carries (R133). -/
def State.raiseIsland (s : State) (i : Isl) (c : Cause) (sev : Severity) (cueId : Option Nat) : State :=
  s.raise (.island i) c sev ((s.live i).bind (fun x => (s.src x).pos)) cueId

/-! ### The start slot arbiter -/

/-- The slots that are free. -/
def Arbiter.free (a : Arbiter) : Nat := a.slot1.isNone.toNat + a.slot2.isNone.toNat

/-- A slot is free and no decided grant is on its way to it (log entry 3). -/
def Arbiter.spare (a : Arbiter) : Bool := a.due.length < a.free

/-- The order of choice: from the source after the pointer up through S8 and round from S1 (R104). -/
def turnOrder (pointer : Src) : List Src := [1, 2, 3, 4, 5, 6, 7, 8].map (fun k => pointer + Fin.ofNat 8 k)

/-- The waiting request that comes first in the order of choice (R104). -/
def nextInTurn (pointer : Src) (waits : List Request) : Option Request :=
  (turnOrder pointer).findSome? (fun x => waits.find? (fun r => r.source == x))

/-- The source the next choice counts from: the last one a grant was decided for, else the pointer (R104). -/
def Arbiter.turnFrom (a : Arbiter) : Src := (a.due.getLast?.map (·.source)).getD a.pointer

/-- The source has a request at the arbiter. -/
def Arbiter.asked (a : Arbiter) (x : Src) : Bool :=
  a.waits.any (fun r => r.source == x) || a.due.any (fun r => r.source == x)

/-- The waiting request of a source. -/
def Arbiter.waiting (a : Arbiter) (x : Src) : Option Request := a.waits.find? (fun r => r.source == x)

/-- A freed slot goes to the next waiting source in turn, or stays free when none waits (R104). -/
def State.refill (s : State) : State :=
  if s.arbiter.spare then
    match nextInTurn s.arbiter.turnFrom s.arbiter.waits with
    | none => s
    | some r =>
      ({ s with arbiter := { s.arbiter with
          waits := s.arbiter.waits.filter (fun w => w.source != r.source),
          due := s.arbiter.due ++ [r] } } : State).post (.source r.source)
  else s

/-- A start request (R102): its grant is decided at once when a slot is free, otherwise it joins the wait set. A source
has at most one request (R101). -/
def State.request (s : State) (x : Src) (o : Origin) : State :=
  if s.arbiter.asked x then s
  else if s.arbiter.spare then { s with arbiter := { s.arbiter with due := s.arbiter.due ++ [⟨x, o⟩] } }
  else ({ s with arbiter := { s.arbiter with waits := s.arbiter.waits ++ [⟨x, o⟩] } } : State).post (.source x)

/-- The withdrawal of a source's request, with its notice when it waited (R101, R105). Where its grant was decided and not
taken, the slot goes to the next waiting source (R84). -/
def State.withdraw (s : State) (x : Src) : State :=
  if s.arbiter.asked x then
    (({ s with arbiter := { s.arbiter with
        waits := s.arbiter.waits.filter (fun r => r.source != x),
        due := s.arbiter.due.filter (fun r => r.source != x) } } : State).postIf (s.arbiter.waiting x).isSome
      (.source x)).refill
  else s

/-- A slot emptied of a source. -/
def freed (x : Src) (slot : Option Src) : Option Src := if slot == some x then none else slot

/-- The release of the slot a source holds (R104). Each of the two slots is offered in turn, so that none stays free while a
source waits (R101, notes/assumptions/23.md). -/
def State.release (s : State) (x : Src) : State :=
  if s.slotHeld x then
    (({ s with arbiter := { s.arbiter with
        slot1 := freed x s.arbiter.slot1, slot2 := freed x s.arbiter.slot2 } } : State).post (.source x)).refill.refill
  else s

/-- The lower-numbered free slot is given to a source, and the pointer moves to it (R103 step 1). -/
def Arbiter.give (a : Arbiter) (x : Src) : Arbiter :=
  if a.slot1.isNone then { a with slot1 := some x, pointer := x }
  else { a with slot2 := some x, pointer := x }

/-! ### Conditions (R25, R130) -/

/-- The test of a condition at a source, as its lines and measurements stand. -/
def State.condTest (s : State) (x : Src) (k : Cond) : Bool := (s.src x).condTest (s.isLive x) k

/-- A condition's presence recorded. -/
def State.putCond (s : State) (x : Src) (k : Cond) (b : Bool) : State :=
  s.setSrc x { s.src x with conds := (s.src x).conds.put b k }

/-- A condition that is present and whose test no longer holds ends (R25, R138). -/
def State.condEnd (s : State) (x : Src) (k : Cond) : State :=
  if (s.src x).conds.get k && !s.condTest x k then (s.putCond x k false).endAlarm (.source x) k.cause else s

/-- Every condition of a source whose test no longer holds ends. -/
def State.condEnds (s : State) (x : Src) : State := allConds.foldl (fun s k => s.condEnd x k) s

/-! ### Outputs of a source and their precedence (section 1.5) -/

/-- The record of a source whose motor goes off (R12). -/
def Source.motorOff (v : Source) : Source :=
  { v with motor := false, band := false, reached := false, runupTimer := none, tailStop := none }

/-- A motor-off request (R12): the motor goes off with its effects, or, already off, a waiting request is withdrawn. -/
def State.motorCut (s : State) (x : Src) : State :=
  if (s.src x).motor then (s.modSrc x Source.motorOff).release x else s.withdraw x

/-- A motor-off request, and the end of the conditions that needed the motor on (R25). -/
def State.motorOff (s : State) (x : Src) : State := (s.motorCut x).condEnds x

/-- The record of a source whose inch output goes off (R13). -/
def Source.inchOff (v : Source) : Source := { v with inch := false, inchTarget := none, inchTimer := none }

/-- The inch output goes off (R13). -/
def State.inchOff (s : State) (x : Src) : State := s.modSrc x Source.inchOff

/-- The dowser closes (R14). -/
def State.dowserClose (s : State) (x : Src) : State := s.modSrc x (fun v => { v with dowser := false })

/-- An open request to a dowser, skipped where R14 says so. -/
def State.dowserOpen (s : State) (x : Src) : State :=
  if (s.src x).openBarred then s else s.modSrc x (fun v => { v with dowser := true })

/-- Lockout sets with its effects (R15). A second lockout leaves the first cause in place. The conditions that needed the
motor are ended by the block that asks, after the alarm of the fault is raised (R130). -/
def State.setLockout (s : State) (x : Src) (c : LockCause) : State :=
  if (s.src x).lockout.isSome then s
  else
    let s := ((s.modSrc x (fun v => { v with lockout := some c })).motorCut x).withdraw x
    s.modSrc x (fun v => { v.inchOff with dowser := false, tailStop := none })

/-- The record of a source whose motor turns on at a grant (R12, R106). -/
def Source.motorOn (v : Source) (now : Nat) : Source :=
  { v with motor := true, band := false, reached := false, runupTimer := some (now + runupSpan v.runUp) }

/-- A tail request (R23): the tail stop is set at p + T, or the motor goes off at once. -/
def State.tailRequest (s : State) (x : Src) : State :=
  if (s.src x).motor then
    match (s.src x).pos with
    | some p =>
      if (s.src x).tail > 0 then
        s.modSrc x (fun v => { v with tailStop := some (min posMax (p + (v.tail : Int))) })
      else s.motorOff x
    | none => s.motorOff x
  else s

/-! ### Conditions that begin -/

/-- A condition begins: the auto-lockout of LAMP_FAIL, then the raise (R130, R132). -/
def State.condBegin (s : State) (x : Src) (k : Cond) : State :=
  let s := s.putCond x k true
  let s := if k == .lampFail then s.setLockout x .lampFail else s
  s.raiseSource x k.cause (k.severity (s.isLive x))

/-- The conditions of a source that begin now. -/
def State.newConds (s : State) (x : Src) : List Cond :=
  allConds.filter (fun k => s.condTest x k && !(s.src x).conds.get k)

/-- The conditions of a source are tested: those that hold anew begin, then those that no longer hold end (R25). -/
def State.testConds (s : State) (x : Src) : State :=
  ((s.newConds x).foldl (fun s k => s.condBegin x k) s).condEnds x

/-! ### Cue records, rundowns and marks -/

/-- A cue leaves its island's rundown (R74). -/
def State.unplace (s : State) (i : Isl) (id : Nat) : State := s.setRundown i ((s.rundown i).filter (fun k => k != id))

/-- A record leaves the table (section 3.7). -/
def State.removeCue (s : State) (id : Nat) : State := { s with cues := s.cues.filter (fun c => c.id != id) }

/-- A record reaches DONE or MISSED (R51): its outcome is stored, it leaves its rundown, its notice is posted, and a DONE
record with keep clear is retired (R58). The alarm, the engine and the head evaluation follow in the block that asks. -/
def State.endCue (s : State) (c : CueRec) (f : CueRec → CueRec) : State :=
  let s := (s.modCue c.id (fun r => { f r with blocked := none, slotRequested := false })).unplace c.island c.id
  match s.cue c.id with
  | some r => if r.state == .done && !r.keep then s.removeCue c.id else s
  | none => s

/-- The record of a cue that ends MISSED with a cause (R54). -/
def CueRec.miss (cause : MissCause) (c : CueRec) : CueRec := { c with state := .missed, missCause := some cause }

/-- A record ends MISSED with a cause (R54). -/
def State.missCue (s : State) (c : CueRec) (cause : MissCause) : State := s.endCue c (CueRec.miss cause)

/-- The mark watch arms a WAITING MARK that is resolved and whose subject's counter is valid (R59). -/
def State.armMark (s : State) (id : Nat) : State :=
  match s.cue id with
  | some c =>
    if c.kind == .mark && c.state == .waiting && c.resolved && (s.src c.subject).pos.isSome then
      s.modCue id (fun c => { c with state := .armed })
    else s
  | none => s

/-- The ids of the records that satisfy a test, in table order. -/
def State.cueIds (s : State) (f : CueRec → Bool) : List Nat := (s.cues.filter f).map (·.id)

/-- Every resolved WAITING MARK on a source whose counter became valid is armed (R60). -/
def State.armMarks (s : State) (x : Src) : State :=
  (s.cueIds (fun c => c.kind == .mark && c.subject == x)).foldl State.armMark s

/-- Every ARMED MARK on a source whose counter became invalid is disarmed (R60). -/
def State.disarmMarks (s : State) (x : Src) : State :=
  (s.cueIds (fun c => c.kind == .mark && c.subject == x && c.state == .armed)).foldl
    (fun s id => s.modCue id (fun c => { c with state := .waiting })) s

/-- An update ends every ARMED MARK on its source whose trigger it crosses (R61). -/
def State.crossMarks (s : State) (x : Src) (before after : Option Int) : State :=
  (s.cues.filter (fun c => c.kind == .mark && c.subject == x && c.state == .armed
      && c.resT.any (crosses before after))).foldl
    (fun s c => s.endCue c (fun r => { r with state := .done, fireO := after })) s

end Sys2Proof.Machine
end

