-- ==== Sys2Proof/Machine/Link.lean ====
section
/-! DEFINITION. How a port takes a command and answers it (R160 to R163): the status codes, the reply of a command, the
frame-level length check, the response frame, the control check and the checks common to the commands. -/

namespace Sys2Proof.Machine

/-! ### Status codes -/

/-- The status codes of R162. -/
inductive Status where
  | done | unknownCommand | badLength | badValue | noSuch | duplicate | tableFull | listFull | overlap | notInControl
  | protectedRecord | busy | notArmed | notPrimary | faultPresent
deriving DecidableEq, Repr

/-- The code of a status (R162). -/
def Status.code : Status → Byte
  | .done => 0x00
  | .unknownCommand => 0x01
  | .badLength => 0x02
  | .badValue => 0x03
  | .noSuch => 0x04
  | .duplicate => 0x05
  | .tableFull => 0x06
  | .listFull => 0x07
  | .overlap => 0x08
  | .notInControl => 0x09
  | .protectedRecord => 0x0A
  | .busy => 0x0B
  | .notArmed => 0x0C
  | .notPrimary => 0x0D
  | .faultPresent => 0x0E

/-! ### Replies and commands -/

/-- What a command answers: the state it leaves, its status and the data of its response. -/
structure Reply where
  state : State
  status : Status
  data : List Byte
deriving DecidableEq, Repr

/-- A command that was carried out, with the data its rule names. -/
def State.answer (s : State) (data : List Byte) : Reply := ⟨s, .done, data⟩

/-- A command that was carried out and carries no data. -/
def State.accept (s : State) : Reply := s.answer []

/-- A command that was refused: it changes nothing (R162). -/
def State.refuse (s : State) (st : Status) : Reply := ⟨s, st, []⟩

/-- A command of section 10.4: its code, the data lengths its layout gives (R172), and what its owning block does with it. -/
structure Command where
  code : Byte
  lengths : List Nat
  body : Link → List Byte → State → Reply

/-- A command whose frame is taken: the length check, then the owning block (R162). -/
def Command.reply (c : Command) (p : Link) (data : List Byte) (s : State) : Reply :=
  if c.lengths.contains data.length then c.body p data s else s.refuse .badLength

/-! ### The response frame (R163) -/

/-- The bytes the check covers, with the check after them. -/
def withCheck (bytes : List Byte) : List Byte := bytes ++ [crc bytes]

/-- The response code: the command code with its top bit set. A code of 0x80 or above is echoed unchanged (R163). -/
def responseCode (code : Byte) : Byte := code ||| 0x80

/-- The response frame of a part (R163). -/
def responseFrame (address : BitVec 4) (code : Byte) (st : Status) (data : List Byte) : List Byte :=
  0xC3 :: withCheck ([address.setWidth 8, responseCode code, st.code, byteOf data.length] ++ data)

/-- A port in ANSWER, with nothing left of the frame it took (R160). -/
def Port.answering (q : Port) : Port := { q with recv := .answer, buf := [], received := 0, check := 0, interByte := none }

/-- A port takes a frame: its state becomes ANSWER (R160). -/
def State.enterAnswer (s : State) (p : Link) : State := s.setPort p (s.port p).answering

/-- A port sends a response (R163). -/
def State.respond (s : State) (p : Link) (code : Byte) (st : Status) (data : List Byte) : State :=
  s.setPort p { s.port p with response := responseFrame s.unitAddress code st data }

/-- A port can take a frame: it is not sending an answer (R159), and the part is not held in reset (R174). -/
def State.takes (s : State) (p : Link) : Bool := !s.resetAsserted && (s.port p).recv != .answer

/-- A reply is sent as the answer to a code. -/
def Reply.send (r : Reply) (p : Link) (code : Byte) : State := r.state.respond p code r.status r.data

/-- A frame of a command is taken at a port, carried out and answered (R160, R162, R163). A port that cannot take a frame is
left as it is (log entry 6). -/
def State.runCommand (c : Command) (p : Link) (data : List Byte) (s : State) : State :=
  if s.takes p then (c.reply p data (s.enterAnswer p)).send p c.code else s

/-! ### Checks common to the commands -/

/-- The first check that fails gives the refusal; when none fails the command is carried out. -/
def State.checked (s : State) (checks : List (Bool × Status)) (run : Reply) : Reply :=
  match checks with
  | [] => run
  | (fails, st) :: rest => if fails then s.refuse st else s.checked rest run

/-- A link controls an island (R150). -/
def State.controls (s : State) (p : Link) (i : Isl) : Bool := (s.isl i).control == p

/-- A link controls the island a source lies in. A source with no island needs no control (R152). -/
def State.controlsOf (s : State) (p : Link) (x : Src) : Bool :=
  match (s.src x).island with
  | some i => s.controls p i
  | none => true

/-- The checks of section 1.6 before a command on one source, named by the first data byte. -/
def State.onSource (s : State) (p : Link) (d : List Byte) (own : Src → Reply) : Reply :=
  match srcOf (natAt d 0) with
  | none => s.refuse .badValue
  | some x =>
    s.checked [(!(s.src x).configured, .noSuch), (!s.controlsOf p x, .notInControl)] (own x)

/-- The checks before a command on an island, named by the first data byte: its number, then control of it. -/
def State.onIsland (s : State) (p : Link) (d : List Byte) (own : Isl → Reply) : Reply :=
  match islOf (natAt d 0) with
  | none => s.refuse .badValue
  | some i => s.checked [(!s.controls p i, .notInControl)] (own i)

/-- The checks before a command on a cue, named by the first data word: its id, its record, then control of its island. -/
def State.onCue (s : State) (p : Link) (d : List Byte) (own : CueRec → Reply) : Reply :=
  match cueIdOf (wordAt d 0) with
  | none => s.refuse .badValue
  | some id =>
    match s.cue id with
    | none => s.refuse .noSuch
    | some c => s.checked [(!s.controls p c.island, .notInControl)] (own c)

/-- The actions of DOWSER, HOLD and LOCKOUT: 1 OPEN or SET, 2 CLOSE or CLEAR (R172). -/
inductive Action where
  | first | second
deriving DecidableEq, Repr

/-- An action byte; any other value is refused BAD_VALUE (R171). -/
def actionOf (n : Nat) : Option Action := if n = 1 then some .first else if n = 2 then some .second else none

/-- The checks of section 1.6 and the action byte. -/
def State.onAction (s : State) (p : Link) (d : List Byte) (own : Src → Action → Reply) : Reply :=
  s.onSource p d (fun x =>
    match actionOf (natAt d 1) with
    | none => s.refuse .badValue
    | some a => own x a)

end Sys2Proof.Machine
end

