-- ==== Sys2Proof/Machine/Images.lean ====
section
/-! DEFINITION. The codes of the enumerations (R171) and the data images of the responses (R173). -/

namespace Sys2Proof.Machine

/-! ### Codes (R171, R173) -/

/-- Types are coded from 1 (R171). -/
def SourceType.code : SourceType → Nat
  | .unused => 1
  | .film35 => 2
  | .film16 => 3
  | .still => 4

/-- The type a code names. -/
def SourceType.ofCode (n : Nat) : Option SourceType :=
  if n = 1 then some .unused else if n = 2 then some .film35 else if n = 3 then some .film16
  else if n = 4 then some .still else none

/-- Source states: UNLOADED to THREADED in the order of R4, then UNUSED 8 and STILL_READY 9 (R171). -/
def SourceState.code : SourceState → Nat
  | .unloaded => 1
  | .inching => 2
  | .atSpeed => 3
  | .running => 4
  | .stopping => 5
  | .parked => 6
  | .threaded => 7
  | .unused => 8
  | .stillReady => 9

/-- Lockout causes, 0 for a clear lockout (R173). -/
def LockCause.code : Option LockCause → Nat
  | none => 0
  | some .manual => 1
  | some .filmBreak => 2
  | some .lampFail => 3
  | some .stall => 4
  | some .runupTimeout => 5

/-- Kinds are coded from 1 (R171). -/
def CueKind.code : CueKind → Nat
  | .changeover => 1
  | .stop => 2
  | .mark => 3

/-- The kind a code names. -/
def CueKind.ofCode (n : Nat) : Option CueKind :=
  if n = 1 then some .changeover else if n = 2 then some .stop else if n = 3 then some .mark else none

/-- The trigger mode a code names (R172). -/
def TrigMode.ofCode (n : Nat) : Option TrigMode := if n = 1 then some .position else if n = 2 then some .take else none

/-- The late policy a code names (R171). -/
def LatePolicy.ofCode (n : Nat) : Option LatePolicy :=
  if n = 1 then some .fireAtMark else if n = 2 then some .holdForPicture else if n = 3 then some .abandon else none

/-- Late policies, 0 when absent (R171, R173). -/
def LatePolicy.code : Option LatePolicy → Nat
  | none => 0
  | some .fireAtMark => 1
  | some .holdForPicture => 2
  | some .abandon => 3

/-- Cue states, WAITING 1 to MISSED 7 (R173). -/
def CueState.code : CueState → Nat
  | .waiting => 1
  | .armed => 2
  | .rolling => 3
  | .ready => 4
  | .firing => 5
  | .done => 6
  | .missed => 7

/-- Unresolved reasons, 0 when absent (R173). -/
def UnresReason.code : Option UnresReason → Nat
  | none => 0
  | some .noMap => 1
  | some .noTag => 2
  | some .outOfStory => 3

/-- Blocked reasons from OUTGOING_NOT_LIVE, in the order of R77, from 7 (R173). -/
def BlockReason.code : BlockReason → Nat
  | .unresolved => 4
  | .outgoingNotLive => 7
  | .outgoingNotRunning => 8
  | .incomingNotReady => 9
  | .incomingHeld => 10
  | .incomingLockedOut => 11
  | .incomingPastStart => 12
  | .leaderTooLong => 13
  | .engineBusy => 14

/-- Miss causes, 1 to 8 in the order of R54 (R173). -/
def MissCause.code : MissCause → Nat
  | .passed => 1
  | .late => 2
  | .notReady => 3
  | .aborted => 4
  | .emergency => 5
  | .mirror => 6
  | .outgoingLost => 7
  | .incomingLost => 8

/-- Engine states, IDLE to RETURNING from 1 (R171). -/
def EngState.code : EngState → Nat
  | .idle => 1
  | .armed => 2
  | .rolling => 3
  | .ready => 4
  | .switching => 5
  | .returning => 6

/-- Switch kinds, 0 when absent (R171, R173). -/
def SwitchKind.code : Option SwitchKind → Nat
  | none => 0
  | some .cue => 1
  | some .cut => 2
  | some .emergency => 3

/-- Causes: sources 1 to 10 in the order of R130, islands 0x11 to 0x16 in the order of R133 (R173). -/
def Cause.code : Cause → Nat
  | .filmBreak => 1
  | .runout => 2
  | .stall => 3
  | .lampFail => 4
  | .loopLoss => 5
  | .overspeed => 6
  | .underspeed => 7
  | .runupTimeout => 8
  | .inchTimeout => 9
  | .countRange => 10
  | .mirrorFault => 0x11
  | .liveNone => 0x12
  | .cueMissed => 0x13
  | .cueSlip => 0x14
  | .emergencyTaken => 0x15
  | .noProtect => 0x16

/-- Every cause, in the order of R130 and R133. -/
def allCauses : List Cause :=
  [.filmBreak, .runout, .stall, .lampFail, .loopLoss, .overspeed, .underspeed, .runupTimeout, .inchTimeout, .countRange,
   .mirrorFault, .liveNone, .cueMissed, .cueSlip, .emergencyTaken, .noProtect]

/-- The cause a code names. -/
def Cause.ofCode (n : Nat) : Option Cause := allCauses.find? (fun c => c.code == n)

/-- Objects: 1 to 8 a source, 0x11 to 0x14 an island (R173). -/
def AlarmObj.code : AlarmObj → Nat
  | .source x => numOf x
  | .island i => 0x10 + numOf i

/-- The object a code names. -/
def AlarmObj.ofCode (n : Nat) : Option AlarmObj :=
  match srcOf n with
  | some x => some (.source x)
  | none => (islOf (n - 0x10)).map AlarmObj.island

/-- A cause is one of its object's kind (R136, R143). -/
def AlarmObj.admits (o : AlarmObj) (c : Cause) : Bool :=
  match o with
  | .source _ => c.ofSource
  | .island _ => !c.ofSource

/-- Alarm states, RAISED 1, STANDING 2, CLEARED 3 (R173). -/
def AlarmState.code : AlarmState → Nat
  | .raised => 1
  | .standing => 2
  | .cleared => 3

/-- The lamp settings, 0 off, 1 steady, 2 flashing (R173). -/
def Lamp.code : Lamp → Nat
  | .off => 0
  | .steady => 1
  | .flashing => 2

/-- The origin of a request: 0 none, 1 RUN, 0x11 to 0x14 the engine of an island (R173). -/
def Origin.code : Option Origin → Nat
  | none => 0
  | some .run => 1
  | some (.engine i) => 0x10 + numOf i

/-- A link's flag: set for PANEL (R173). -/
def isPanel (p : Link) : Bool := p == .panel

/-! ### The cue images -/

/-- The reason code of a cue image, read by state (R173). -/
def CueRec.reasonCode (c : CueRec) : Nat :=
  if c.state == .missed then (c.missCause.map MissCause.code).getD 0
  else
    match c.blocked with
    | none => UnresReason.code c.unresolved
    | some .unresolved => 3 + max 1 (UnresReason.code c.unresolved)
    | some b => b.code

/-- The first word of a cue image: id, kind, island and trigger mode (R173). DESIGN CHOICE: bit 15, which no layout lists, is 0
(notes/assumptions/46.md). -/
def CueRec.word (c : CueRec) : Nat := c.id + 1024 * c.kind.code + 4096 * c.island.val + flagBit (c.mode == .take) 14

/-- The flags byte of a cue image (R173). DESIGN CHOICE: bit 7 is 0 (notes/assumptions/46.md). -/
def CueRec.flags (c : CueRec) (placed : Bool) : Nat :=
  flagBit placed 0 + flagBit c.slotRequested 1 + flagBit c.shortLeader 2 + flagBit c.lateStart 3
    + flagBit c.notAtSpeed 4 + flagBit c.heldForPicture 5 + flagBit c.mapChanged 6

/-- The gauge of a cue's subject. -/
def State.subjectGauge (s : State) (c : CueRec) : Option Nat := (s.src c.subject).stype.fpf

/-- The gauge of a cue's partner. -/
def State.partnerGauge (s : State) (c : CueRec) : Option Nat := c.partner.bind (fun x => (s.src x).stype.fpf)

/-- The fire position of O within its presence: in a record that has ended (R42, R62). -/
def CueRec.shownFireO (c : CueRec) : Option Int := if c.state.ended then c.fireO else none

/-- The cue image, 28 bytes (R62, R173): a field outside its presence in R42 is shown absent. -/
def State.cueImage (s : State) (form : Form) (c : CueRec) : List Byte :=
  let onO := posBytes form (s.subjectGauge c)
  let onI := posBytes form (s.partnerGauge c)
  wordBytes c.word ++ [byteOf (16 * c.state.code + c.reasonCode), byteOf (16 * numOf c.subject + numOpt c.partner),
    byteOf (c.flags (s.placed c))] ++ onO c.resT ++ onI c.resQ ++ onO c.startPoint ++ onO c.shownFireO ++ onI c.fireI
    ++ signedWordBytes (c.fireErr.getD 0) ++ onO (s.src c.subject).pos ++ onI (c.partner.bind (fun x => (s.src x).pos))

/-- The cue spec image, 16 bytes (R63, R173). -/
def State.cueSpecImage (s : State) (form : Form) (c : CueRec) : List Byte :=
  wordBytes c.id ++ specBytes form (s.subjectGauge c) c.trigger ++ specBytes form (s.partnerGauge c) c.picture
    ++ [BitVec.ofInt 8 c.trim, byteOf (LatePolicy.code c.policy), byteOf (c.slipLimit.getD 0), byteOf c.keep.toNat]

/-! ### The source, island and part status images -/

/-- The flags byte of a source image (R173). -/
def State.sourceFlags (s : State) (x : Src) : Nat :=
  let v := s.src x
  flagBit v.band 0 + flagBit v.reached 1 + flagBit v.motor 2 + flagBit v.inch 3 + flagBit v.dowser 4 + flagBit v.hold 5
    + flagBit (s.slotHeld x) 6 + flagBit (s.arbiter.waiting x).isSome 7

/-- The sense byte of a source image, as the lines are read when the command is taken (R165, R173). DESIGN CHOICE: the direction
line has the level of the last FRAME_PULSE (notes/assumptions/42.md), and bits 5 to 7 are 0 (notes/assumptions/46.md). -/
def Source.senseByte (v : Source) : Nat :=
  flagBit v.film 0 + flagBit v.loop 1 + flagBit v.lamp 2 + flagBit v.ready 3 + flagBit v.dirForward 4

/-- The source image, 29 bytes (R165, R173). -/
def State.sourceImage (s : State) (form : Form) (x : Src) : List Byte :=
  let v := s.src x
  let at' := posBytes form v.stype.fpf
  [byteOf (numOf x), byteOf v.stype.code, byteOf (numOpt v.island), byteOf (numOpt v.inputPos)]
    ++ wordBytes v.n ++ wordBytes v.runUp ++ wordBytes v.travel ++ wordBytes v.tail
    ++ [byteOf v.state.code] ++ at' v.pos ++ wordBytes v.rate ++ [byteOf (s.sourceFlags x), byteOf v.senseByte,
      byteOf (LockCause.code v.lockout), byteOf (Origin.code ((s.arbiter.waiting x).map (·.origin)))]
    ++ at' v.tailStop ++ at' v.inchTarget ++ [byteOf (s.map x).length]

/-- The island image, 15 bytes (R108, R173). DESIGN CHOICE: bits that the layout does not list are 0 (notes/assumptions/46.md). -/
def State.islandImage (s : State) (i : Isl) : List Byte :=
  let v := s.isl i
  let e := s.eng i
  [byteOf (numOf i), byteOf (numOpt v.sensed), byteOf (numOpt (s.live i)), byteOf (numOpt v.protect),
    byteOf (flagBit v.emergEnable 0 + flagBit v.driftTimer.isSome 1 + flagBit (isPanel v.control) 2)]
    ++ wordBytes v.margin ++ [byteOf e.state.code] ++ wordBytes (e.cue.getD 0)
    ++ [byteOf (SwitchKind.code e.switchKind), byteOf (e.attempts.getD 0),
      byteOf (flagBit e.takePending 0 + flagBit e.holdPicture 1 + flagBit e.triggerReached 2),
      byteOf (numOpt e.returnPos), byteOf (numOpt e.drive)]

/-- A bit mask of the sources, bit 0 for S1 (R173). -/
def sourceMask (f : Src → Bool) : Nat := (allSources.map (fun x => flagBit (f x) x.val)).sum

/-- The enables byte of a port (R172, R173). -/
def Port.enables (q : Port) : Nat :=
  flagBit q.enCue 0 + flagBit q.enSource 1 + flagBit q.enIsland 2 + flagBit q.enAlarm 3

/-- The part status image, 16 bytes, read at a port (R164, R173). DESIGN CHOICE: bits that the layout does not list are 0
(notes/assumptions/46.md). -/
def State.statusImage (s : State) (p : Link) : List Byte :=
  let q := s.port p
  let waits := fun x => (s.arbiter.waiting x).isSome
  let runs := fun x => (s.arbiter.waiting x).any (fun r => r.origin == .run)
  [byteOf s.unitAddress.toNat,
    byteOf (flagBit (isPanel s.primaryLink) 0 + flagBit q.restart 1 + flagBit s.alarms.overflow 2
      + flagBit s.alarms.silence 3 + flagBit q.overflow 4),
    byteOf (allIslands.map (fun i => flagBit (isPanel (s.isl i).control) i.val)).sum]
    ++ allIslands.map (fun i => byteOf (s.eng i).state.code)
    ++ [byteOf (numOpt s.arbiter.slot1), byteOf (numOpt s.arbiter.slot2), byteOf (sourceMask waits),
      byteOf (sourceMask runs), byteOf s.cues.length, byteOf s.alarms.records.length,
      byteOf (flagBit s.alarms.bell 0 + 2 * s.alarms.lamp.code), byteOf q.notices.length, byteOf q.enables]

/-! ### Segments, alarms, notices and rundowns -/

/-- The segment image, 7 bytes (R173). -/
def Segment.image (g : Segment) : List Byte := wordBytes g.tag ++ framesBytes g.first ++ wordBytes g.length

/-- The alarm image, 9 bytes (R173). The captured position is in FRAMES form: READ ALARMS carries no form.
DESIGN CHOICE: bits 3 to 7 of the third byte are 0 (notes/assumptions/46.md). -/
def AlarmRec.image (r : AlarmRec) : List Byte :=
  [byteOf r.object.code, byteOf r.cause.code, byteOf (flagBit (r.severity == .urgent) 0 + 2 * r.state.code),
    byteOf r.count] ++ posBytes .frames none r.captured ++ wordBytes (r.cueId.getD 0)

/-- A notice entry, 3 bytes (R173). -/
def Notice.image : Notice → List Byte
  | .cue id => [1] ++ wordBytes id
  | .source x => [2, 0, byteOf (numOf x)]
  | .island i => [3, 0, byteOf (numOf i)]
  | .alarm o c => [4, byteOf o.code, byteOf c.code]

/-- A value's low bits, most significant first. -/
def bitsOf : Nat → Nat → List Bool
  | 0, _ => []
  | k + 1, n => n.testBit k :: bitsOf k n

/-- Up to eight bits as a byte, the first most significant, filled with zero bits. -/
def packByte (bits : List Bool) : Byte :=
  byteOf ((List.range 8).map (fun k => flagBit (bits.getD k false) (7 - k))).sum

/-- Bits packed into at most `n` bytes (R173). -/
def packBits : Nat → List Bool → List Byte
  | 0, _ => []
  | n + 1, bits => if bits.isEmpty then [] else packByte (bits.take 8) :: packBits n (bits.drop 8)

/-- Ids packed as 10-bit fields (R173). -/
def packIds (ids : List Nat) : List Byte := packBits (2 * ids.length) (ids.flatMap (bitsOf 10))

end Sys2Proof.Machine
end

