-- ==== Sys2Proof/Machine/AlarmCommands.lean ====
section
/-! DEFINITION. The commands on alarms: ACKNOWLEDGE_ALARM, ACKNOWLEDGE_ALL, SILENCE_BELL. -/

namespace Sys2Proof.Machine

/-! ### ACKNOWLEDGE_ALARM -/

/-- A link controls the island an object lies in; a source with no island needs no control (R143). -/
def State.controlsObj (s : State) (p : Link) : AlarmObj → Bool
  | .source x => s.controlsOf p x
  | .island i => s.controls p i

/-- The object and the cause an ACKNOWLEDGE ALARM names, where they pass step 1 of R143. -/
def alarmArg (d : List Byte) : Option (AlarmObj × Cause) := do
  let o ← AlarmObj.ofCode (natAt d 0)
  let c ← Cause.ofCode (natAt d 1)
  if o.admits c then pure (o, c) else none

/-- The checks of R143 in their order, then the acknowledgement. -/
def acknowledgeAlarmBody (p : Link) (d : List Byte) (s : State) : Reply :=
  match alarmArg d with
  | none => s.refuse .badValue
  | some (o, c) =>
    match s.alarm o c with
    | none => s.refuse .noSuch
    | some r => s.checked [(!s.controlsObj p o, .notInControl)] (s.ackAlarm r).accept

/-- ACKNOWLEDGE ALARM, code 0x50. -/
def acknowledgeAlarmCommand : Command := ⟨0x50, [2], acknowledgeAlarmBody⟩

/-- ACKNOWLEDGE_ALARM (R143). -/
def execAcknowledgeAlarm (p : Link) (data : List Byte) (s : State) : Host.Outcome State Fault Refusal :=
  .next (s.runCommand acknowledgeAlarmCommand p data)

/-! ### ACKNOWLEDGE_ALL -/

/-- Every record of an island the link controls is acknowledged, and every record on a source with no island (R144). -/
def acknowledgeAllBody (p : Link) (_ : List Byte) (s : State) : Reply :=
  ((s.alarms.records.filter (fun r => s.controlsObj p r.object)).foldl State.ackAlarm s).accept

/-- ACKNOWLEDGE ALL, code 0x51. -/
def acknowledgeAllCommand : Command := ⟨0x51, [0], acknowledgeAllBody⟩

/-- ACKNOWLEDGE_ALL (R144). -/
def execAcknowledgeAll (p : Link) (data : List Byte) (s : State) : Host.Outcome State Fault Refusal :=
  .next (s.runCommand acknowledgeAllCommand p data)

/-! ### SILENCE_BELL -/

/-- The silence flag sets (R142). -/
def silenceBellBody (_ : Link) (_ : List Byte) (s : State) : Reply :=
  ({ s with alarms := { s.alarms with silence := true } } : State).accept

/-- SILENCE BELL, code 0x52. -/
def silenceBellCommand : Command := ⟨0x52, [0], silenceBellBody⟩

/-- SILENCE_BELL (R142). -/
def execSilenceBell (p : Link) (data : List Byte) (s : State) : Host.Outcome State Fault Refusal :=
  .next (s.runCommand silenceBellCommand p data)

end Sys2Proof.Machine
end

