-- ==== Sys2Proof/Machine/ControlCommands.lean ====
section
/-! DEFINITION. The commands on control: GIVE_CONTROL, TAKE_CONTROL, SEIZE_CONTROL. -/

namespace Sys2Proof.Machine

/-- Control of an island moves to a link, with its notice; control that stays where it was changes nothing (R150). -/
def State.moveControl (s : State) (i : Isl) (p : Link) : State :=
  if (s.isl i).control = p then s else (s.setIsl i { s.isl i with control := p }).post (.island i)

/-! ### GIVE_CONTROL -/

/-- The checks of R153, then control moves to the other link. -/
def giveControlBody (p : Link) (d : List Byte) (s : State) : Reply :=
  s.onIsland p d (fun i => (s.moveControl i p.other).accept)

/-- GIVE CONTROL, code 0x60. -/
def giveControlCommand : Command := ⟨0x60, [1], giveControlBody⟩

/-- GIVE_CONTROL (R153). -/
def execGiveControl (p : Link) (data : List Byte) (s : State) : Host.Outcome State Fault Refusal :=
  .next (s.runCommand giveControlCommand p data)

/-! ### TAKE_CONTROL -/

/-- The engine states in which control cannot be taken (R154 step 3). -/
def EngState.committed : EngState → Bool
  | .rolling | .ready | .switching | .returning => true
  | .idle | .armed => false

/-- The checks of R154 in their order; a link that controls the island already is answered DONE. -/
def takeControlBody (p : Link) (d : List Byte) (s : State) : Reply :=
  match islOf (natAt d 0) with
  | none => s.refuse .badValue
  | some i =>
    if s.controls p i then s.accept
    else s.checked [((s.eng i).state.committed, .busy)] (s.moveControl i p).accept

/-- TAKE CONTROL, code 0x61. -/
def takeControlCommand : Command := ⟨0x61, [1], takeControlBody⟩

/-- TAKE_CONTROL (R154). -/
def execTakeControl (p : Link) (data : List Byte) (s : State) : Host.Outcome State Fault Refusal :=
  .next (s.runCommand takeControlCommand p data)

/-! ### SEIZE_CONTROL -/

/-- The checks of R155, then control moves to the primary link. -/
def seizeControlBody (p : Link) (d : List Byte) (s : State) : Reply :=
  match islOf (natAt d 0) with
  | none => s.refuse .badValue
  | some i => s.checked [(p != s.primaryLink, .notPrimary)] (s.moveControl i p).accept

/-- SEIZE CONTROL, code 0x62. -/
def seizeControlCommand : Command := ⟨0x62, [1], seizeControlBody⟩

/-- SEIZE_CONTROL (R155). -/
def execSeizeControl (p : Link) (data : List Byte) (s : State) : Host.Outcome State Fault Refusal :=
  .next (s.runCommand seizeControlCommand p data)

end Sys2Proof.Machine
end

