-- ==== Sys2Proof/Machine/Engine.lean ====
section
/-! DEFINITION. The shared operations of the changeover engines: the drift timer, the mirror attempts, firing, the ends of a
flight, the disarm, the preroll and its request, the fire decision and the start that proceeds (chapters 5 and 7). None of them
starts a head evaluation: the meanings call `settle` (Arming.lean) after them. -/

namespace Sys2Proof.Machine

/-! ### The drift timer (R110) -/

/-- The drift timer stops and the LIVE_NONE condition ends (R110). -/
def State.driftStop (s : State) (i : Isl) : State :=
  let t := s.setIsl i { s.isl i with driftTimer := none, liveNone := false }
  if (s.isl i).liveNone then t.endAlarm (.island i) .liveNone else t

/-- The drift timer starts, unless it runs (R110). -/
def State.driftStart (s : State) (i : Isl) : State :=
  if (s.isl i).driftTimer.isSome then s
  else s.setIsl i { s.isl i with driftTimer := some (s.now + driftSpan) }

/-! ### Mirror moves (R119) -/

/-- The engine takes the values of IDLE (R112). -/
def State.engIdle (s : State) (i : Isl) : State := s.modEng i (fun _ => Engine.idle)

/-- A move ends with the engine IDLE; a mirror left BETWEEN starts the drift timer (R110, R119). -/
def State.moveEnd (s : State) (i : Isl) : State :=
  let s := s.engIdle i
  if (s.isl i).sensed.isNone then s.driftStart i else s

/-- Attempt k of a move: the drive is issued anew, the attempt timer starts, the drift timer stops (R119). -/
def State.attempt (s : State) (i : Isl) (target : InPos) (k : Nat) : State :=
  (s.modEng i (fun e =>
    { e with drive := some target, attemptTimer := some (s.now + attemptSpan), attempts := some k })).driftStop i

/-- Attempt 1 toward a source's input position. -/
def State.attemptTo (s : State) (i : Isl) (x : Src) : State :=
  match (s.src x).inputPos with
  | some k => s.attempt i k 1
  | none => s

/-- The engine in RETURNING toward a position (R119). -/
def Engine.returning (e : Engine) (k : InPos) : Engine :=
  { Engine.idle with state := .returning, switchKind := e.switchKind, returnPos := some k }

/-- RETURNING begins with its one attempt; it is confirmed at once when the mirror already stands there (R119). -/
def State.beginReturn (s : State) (i : Isl) (k : InPos) : State :=
  let s := (s.modEng i (fun e => e.returning k)).attempt i k 1
  if (s.isl i).sensed == some k then s.moveEnd i else s

/-! ### Firing (R118, R122) and the ends of a flight -/

/-- The fire error of a CHANGEOVER at this moment (R52): p_I − q for a film I, 0 for a still I. -/
def State.fireErrOf (s : State) (c : CueRec) (x : Src) : Option Int :=
  if (s.src x).isFilm then
    match (s.src x).pos, c.resQ with
    | some p, some q => some (clampErr (p - q))
    | _, _ => none
  else some 0

/-- A CHANGEOVER fires (R118). Its fire position of O is recorded now (R52) and shown once it has ended (R42). DEDUCED: where the
record holds it in between, see notes/assumptions/36.md. -/
def State.fire (s : State) (i : Isl) (c : CueRec) (notAtSpeed held : Bool) : State :=
  match c.partner with
  | none => s
  | some x =>
    let o := s.src c.subject
    let v := s.src x
    let e := s.fireErrOf c x
    let s := s.modCue c.id (fun r =>
      { r with fireO := o.pos, fireI := if v.isFilm then v.pos else none, fireErr := e,
               notAtSpeed := r.notAtSpeed || notAtSpeed, heldForPicture := r.heldForPicture || held,
               state := .firing, slotRequested := false })
    let s := s.modEng i (fun g =>
      { g with state := .switching, takePending := false, holdPicture := false, triggerReached := false,
               switchKind := some .cue, returnPos := o.inputPos })
    (s.attemptTo i x).dowserOpen x

/-- The current cue ends MISSED with a cause and the engine returns to IDLE as part of the ending (R74, R112). -/
def State.endFlight (s : State) (i : Isl) (c : CueRec) (cause : MissCause) : State := (s.missCue c cause).engIdle i

/-- An ARMED STOP fires: its position is recorded, its subject's motor goes off, it ends DONE (R122). -/
def State.fireStop (s : State) (i : Isl) (c : CueRec) : State :=
  let p := (s.src c.subject).pos
  ((s.motorOff c.subject).endCue c (fun r => { r with state := .done, fireO := p })).engIdle i

/-- MISSED NOT_READY: I is stopped and the cue keeps the fire position of O (R115). -/
def State.missNotReady (s : State) (i : Isl) (c : CueRec) (x : Src) : State :=
  let p := (s.src c.subject).pos
  ((s.motorOff x).endCue c (fun r => { r.miss .notReady with fireO := p })).engIdle i

/-- A disarm (R50) with the engine's part of it (R113). -/
def State.disarm (s : State) (i : Isl) (c : CueRec) : State :=
  let s : State := match c.partner with
    | some x => s.withdraw x
    | none => s
  (s.modCue c.id (fun r =>
    { r with state := .waiting, startPoint := none, slotRequested := false, shortLeader := false })).engIdle i

/-! ### The preroll (chapter 5) -/

/-- The cue holds a preroll while ARMED: a POSITION-mode CHANGEOVER with a film I (R86). -/
def State.hasPreroll (s : State) (c : CueRec) : Bool :=
  c.kind == .changeover && c.mode == .position && c.partner.any (fun x => (s.src x).isFilm)

/-- The start request of an engine for its cue: slot requested sets (R94). For a source under hold or lockout an engine makes no
request (R15, R16), and a source without a motor is never started (R5). -/
def State.askSlot (s : State) (i : Isl) (id : Nat) (x : Src) : State :=
  if !(s.src x).isFilm || (s.src x).hold || (s.src x).lockout.isSome then s
  else (s.request x (.engine i)).modCue id (fun c => { c with slotRequested := true })

/-- The request test: while ARMED with slot requested clear, p_O ≥ a makes the request (R94). -/
def State.testStart (s : State) (i : Isl) (id : Nat) : State :=
  match s.cue id with
  | none => s
  | some c =>
    match c.partner, c.startPoint, (s.src c.subject).pos with
    | some x, some a, some p =>
      if c.state == .armed && !c.slotRequested && a ≤ p then s.askSlot i id x else s
    | _, _, _ => s

/-- A computation of the start point, followed at once by the request test (R87, R91). A change of SHORT_LEADER posts a
notice; a change of a alone posts none. -/
def State.computeStart (s : State) (i : Isl) (id : Nat) : State :=
  match s.cue id with
  | none => s
  | some c =>
    match c.partner, c.resT, c.resQ with
    | some x, some t, some q =>
      match (s.src x).pos with
      | some p =>
        let r := prerollOf t q p (s.src c.subject) (s.src x) (s.isl i).margin
        let s := (s.setCue id (fun c => { c with startPoint := some r.start })).modCue id
          (fun c => { c with shortLeader := r.short })
        (s.setEng i { s.eng i with window := some r.window }).testStart i id
      | none => s
    | _, _, _ => s

/-- A recomputation while ARMED and before the request (R91). -/
def State.recompute (s : State) (i : Isl) : State :=
  match s.current i with
  | some c => if c.state == .armed && !c.slotRequested && s.hasPreroll c then s.computeStart i c.id else s
  | none => s

/-! ### The fire decision (R115, R116) -/

/-- The decision at the trigger while ROLLING, by the late policy (R115). DESIGN CHOICE: a crossing that sets hold-for-picture
records no fire position (notes/assumptions/38.md). -/
def State.decideRolling (s : State) (i : Isl) (c : CueRec) : State :=
  match c.policy, c.partner with
  | some .fireAtMark, _ => s.fire i c true false
  | some .holdForPicture, _ => s.modEng i (fun e => { e with holdPicture := true, triggerReached := false })
  | some .abandon, some x => s.missNotReady i c x
  | _, _ => s

/-- O crosses t with take-pending and hold-for-picture clear (R115). -/
def State.decide (s : State) (i : Isl) (c : CueRec) : State :=
  match (s.eng i).state with
  | .armed => s.modEng i (fun e => { e with triggerReached := true })
  | .rolling => s.decideRolling i c
  | .ready => s.fire i c false false
  | .idle | .switching | .returning => s

/-! ### A start that proceeds, and the slip (R96 to R99, R116) -/

/-- A start that proceeds: the cue and the engine enter ROLLING (R98), and a deferred decision is taken (R116). -/
def State.startProceeds (s : State) (i : Isl) (c : CueRec) (late held : Bool) : State :=
  let deferred := (s.eng i).triggerReached
  let s := s.modCue c.id (fun r =>
    { r with state := .rolling, slotRequested := false, lateStart := r.lateStart || late })
  let s := s.modEng i (fun e => { e with state := .rolling, holdPicture := e.holdPicture || held })
  if deferred then s.decideRolling i c else s

/-- The slip S at this moment, where lateness is judged: in POSITION mode with take-pending clear (R96, R99). -/
def State.slipOf (s : State) (i : Isl) (c : CueRec) : Option Int :=
  if c.mode == .position && !(s.eng i).takePending then
    match (s.eng i).window, c.resT, (s.src c.subject).pos with
    | some w, some t, some p => some (slipAt w (s.src c.subject) t p)
    | _, _, _ => none
  else none

/-! ### A mirror move's end -/

/-- The confirm of a CUE switch (R120). -/
def State.confirmCue (s : State) (i : Isl) (c : CueRec) : State :=
  let s := (s.dowserClose c.subject).tailRequest c.subject
  let s := (s.endCue c (fun r => { r with state := .done })).engIdle i
  match c.fireErr, c.slipLimit with
  | some e, some limit => if e.natAbs > limit then s.raiseIsland i .cueSlip .warning (some c.id) else s
  | _, _ => s

/-- The confirm of a CUT (R124). -/
def State.confirmCut (s : State) (i : Isl) : State :=
  match (s.eng i).origin with
  | some (some x) => ((s.dowserClose x).tailRequest x).moveEnd i
  | some none | none => s.moveEnd i

/-- The engine's part of a change of the sensed position: a move is confirmed when the position is the target (R119). -/
def State.confirm (s : State) (i : Isl) : State :=
  if (s.isl i).sensed.isSome && (s.isl i).sensed == (s.eng i).drive then
    match (s.eng i).state, (s.eng i).switchKind with
    | .switching, some .cue =>
      match s.current i with
      | some c => s.confirmCue i c
      | none => s.moveEnd i
    | .switching, some .cut => s.confirmCut i
    | .switching, some .emergency => s.moveEnd i
    | .switching, none => s.moveEnd i
    | .returning, _ => s.moveEnd i
    | .idle, _ | .armed, _ | .rolling, _ | .ready, _ => s
  else s

/-- The failure of a CUE switch (R121). -/
def State.failCue (s : State) (i : Isl) (c : CueRec) : State :=
  let back := (s.eng i).returnPos
  let s := s.raiseIsland i .mirrorFault .urgent (some c.id)
  let s : State := match c.partner with
    | some x =>
      let s := s.dowserClose x
      if (s.src x).isFilm then s.motorOff x else s
    | none => s
  let s := s.missCue c .mirror
  match back with
  | some k => s.beginReturn i k
  | none => s.moveEnd i

/-- A failed move toward a source that carries no cue: its dowser closes (R124, R148). -/
def State.failClose (s : State) (i : Isl) : State :=
  let target := (s.eng i).drive.bind (s.sourceAt i)
  let s := s.raiseIsland i .mirrorFault .urgent none
  match target with
  | some x => s.dowserClose x
  | none => s

/-- The failure of a CUT (R124). -/
def State.failCut (s : State) (i : Isl) : State :=
  match (s.eng i).returnPos with
  | some k => (s.failClose i).beginReturn i k
  | none => (s.failClose i).moveEnd i

/-- The failure of a move after attempt 3, by kind (R119). -/
def State.failMove (s : State) (i : Isl) : State :=
  match (s.eng i).switchKind with
  | some .cue =>
    match s.current i with
    | some c => s.failCue i c
    | none => s.moveEnd i
  | some .cut => s.failCut i
  | some .emergency => (s.failClose i).moveEnd i
  | none => s.moveEnd i

end Sys2Proof.Machine
end

