-- ==== Sys2Proof/Machine/Arming.lean ====
section
/-! DEFINITION. Head evaluation, arming, and the engine's watch over its parties (chapters 4 and 7). `settle` judges an island
against the state as it stands. Judging twice with nothing changed changes nothing (section 4.3), so every meaning settles the
island it may have changed, after its own effects. -/

namespace Sys2Proof.Machine

/-! ### The arming conditions -/

/-- I fails test 4: a film I not PARKED, a still I not STILL_READY (R77). For an ARMED cue RUNNING and AT_SPEED count as
holding (R81). -/
def Source.notReady (v : Source) (rejudged : Bool) : Bool :=
  if v.isFilm then !(v.state == .parked || (rejudged && v.isRunning)) else v.state != .stillReady

/-- The first failing condition of a CHANGEOVER, in the order of R77; re-judged without the engine test (R81). -/
def State.blockChangeover (s : State) (i : Isl) (c : CueRec) (x : Src) (rejudged : Bool) : Option BlockReason :=
  let o := s.src c.subject
  let v := s.src x
  let lead := match v.pos, c.resQ with
    | some p, some q => some (q - p)
    | _, _ => none
  if !c.resolved then some .unresolved
  else if s.live i != some c.subject then some .outgoingNotLive
  else if c.mode == .position && (!o.isRunning || o.pos.isNone) then some .outgoingNotRunning
  else if v.notReady rejudged then some .incomingNotReady
  else if v.hold then some .incomingHeld
  else if v.lockout.isSome then some .incomingLockedOut
  else if v.isFilm && lead.any (· < 0) then some .incomingPastStart
  else if v.isFilm && lead.any (· > maxLeader) then some .leaderTooLong
  else if !rejudged && (s.eng i).state != .idle then some .engineBusy
  else none

/-- The first failing condition of a STOP, in the order of R79; re-judged without the engine test (R81). -/
def State.blockStop (s : State) (i : Isl) (c : CueRec) (rejudged : Bool) : Option BlockReason :=
  let o := s.src c.subject
  if c.mode == .position && !c.resolved then some .unresolved
  else if !o.isRunning || (c.mode == .position && o.pos.isNone) then some .outgoingNotRunning
  else if !rejudged && (s.eng i).state != .idle then some .engineBusy
  else none

/-- The first failing arming condition of a head. -/
def State.blockOf (s : State) (i : Isl) (c : CueRec) (rejudged : Bool) : Option BlockReason :=
  match c.kind, c.partner with
  | .changeover, some x => s.blockChangeover i c x rejudged
  | .changeover, none => some .unresolved
  | .stop, _ => s.blockStop i c rejudged
  | .mark, _ => some .unresolved

/-- The reason that blocks a WAITING head: ENGINE_BUSY at every evaluation while the engine is SWITCHING or RETURNING (R74, R85,
R123, R147), otherwise its first failing condition. DESIGN CHOICE: those rules win over the order of R77 and R79, which puts the
engine last (notes/assumptions/37.md). -/
def State.blockWaiting (s : State) (i : Isl) (c : CueRec) : Option BlockReason :=
  if (s.eng i).moving then some .engineBusy else s.blockOf i c false

/-- The trigger has passed: a resolved POSITION-mode WAITING head whose subject's counter stands at or above t (R82). -/
def State.passed (s : State) (c : CueRec) : Bool :=
  c.mode == .position && c.resolved &&
    match c.resT, (s.src c.subject).pos with
    | some t, some p => t ≤ p
    | _, _ => false

/-! ### Arming (R80, R113) -/

/-- The engine's path within the arming, by the cue's kind, mode and I (R113). -/
def State.beginPath (s : State) (i : Isl) (c : CueRec) : State :=
  match c.kind, c.partner with
  | .changeover, some x =>
    if (s.src x).isFilm then
      let s := s.withdraw x
      match c.mode with
      | .take => s.askSlot i c.id x
      | .position => s.computeStart i c.id
    else
      (s.modEng i (fun e => { e with state := .ready })).modCue c.id (fun r => { r with state := .ready })
  | .changeover, none | .stop, _ | .mark, _ => s

/-- A WAITING head that meets its conditions arms and becomes the engine's current cue (R80). -/
def State.arm (s : State) (i : Isl) (c : CueRec) : State :=
  let s := s.modCue c.id (fun r => { r with state := .armed, blocked := none })
  let s := s.modEng i (fun e => { e with state := .armed, cue := some c.id })
  s.beginPath i c

/-- The head evaluation of an island (R76), with at most `fuel` heads judged in turn. A head that has passed ends MISSED PASSED,
the next head is judged, and then CUE_MISSED is raised, in the order of R82 (notes/assumptions/11.md). -/
def State.evaluate (i : Isl) : Nat → State → State
  | 0, s => s
  | fuel + 1, s =>
    match s.head i with
    | none => s
    | some c =>
      match c.state with
      | .waiting =>
        if s.passed c then
          (State.evaluate i fuel (s.missCue c .passed)).raiseIsland i .cueMissed .warning (some c.id)
        else
          match s.blockWaiting i c with
          | some b => s.modCue c.id (fun r => { r with blocked := some b })
          | none => s.arm i c
      | .armed => if (s.blockOf i c true).isSome then State.evaluate i fuel (s.disarm i c) else s
      | .rolling | .ready | .firing | .done | .missed => s

/-! ### The engine's watch over a flight (R114, R126, R127) -/

/-- I is lost in ROLLING or READY: locked out, its motor or film gone, or a still I no longer ready (R127). -/
def Source.lostIncoming (v : Source) : Bool :=
  v.lockout.isSome || (v.isFilm && (!v.motor || !v.film)) || (v.isStill && !v.ready)

/-- O is lost in ROLLING or READY: no longer live, or, in POSITION mode, no longer running (R126). -/
def State.lostOutgoing (s : State) (i : Isl) (c : CueRec) : Bool :=
  s.live i != some c.subject || (c.mode == .position && !(s.src c.subject).isRunning)

/-- The ending of a flight whose O is lost (R126). -/
def State.loseOutgoing (s : State) (i : Isl) (c : CueRec) (x : Src) : State :=
  let s := if s.live i == some x then s.dowserOpen x else s.motorOff x
  s.endFlight i c .outgoingLost

/-- The engine follows I's speed between ROLLING and READY (R114). -/
def State.followSpeed (s : State) (i : Isl) (c : CueRec) (x : Src) : State :=
  match (s.eng i).state with
  | .rolling =>
    if (s.src x).state == .atSpeed then
      (s.modEng i (fun e => { e with state := .ready })).modCue c.id (fun r => { r with state := .ready })
    else s
  | .ready =>
    if (s.src x).isFilm && (s.src x).state != .atSpeed then
      (s.modEng i (fun e => { e with state := .rolling })).modCue c.id (fun r => { r with state := .rolling })
    else s
  | .idle | .armed | .switching | .returning => s

/-- p_I has reached q. -/
def State.pictureReached (s : State) (c : CueRec) (x : Src) : Bool :=
  match (s.src x).pos, c.resQ with
  | some p, some q => q ≤ p
  | _, _ => false

/-- A READY engine fires on take-pending, or on hold-for-picture with p_I at q or beyond (R114). -/
def State.fireReady (s : State) (i : Isl) (x : Src) : State :=
  match s.current i with
  | none => s
  | some c =>
    if (s.eng i).state == .ready then
      if (s.eng i).takePending then s.fire i c false false
      else if (s.eng i).holdPicture && s.pictureReached c x then s.fire i c false true
      else s
    else s

/-- The engine's watch while ROLLING or READY. -/
def State.watch (s : State) (i : Isl) : State :=
  match s.current i with
  | none => s
  | some c =>
    match c.partner with
    | none => s
    | some x =>
      if (s.eng i).state == .rolling || (s.eng i).state == .ready then
        if (s.src x).lostIncoming then s.endFlight i c .incomingLost
        else if s.lostOutgoing i c then s.loseOutgoing i c x
        else (s.followSpeed i c x).fireReady i x
      else s

/-- The island is judged against the state as it stands: the engine's watch, then the head evaluation. A pass takes at most
one judgement for each entry of the rundown and two for a head disarmed and judged again. -/
def State.settle (s : State) (i : Isl) : State :=
  let s := s.watch i
  State.evaluate i ((s.rundown i).length + 2) s

/-- The island of a source is settled. -/
def State.settleOf (s : State) (x : Src) : State :=
  match (s.src x).island with
  | some i => s.settle i
  | none => s

/-! ### The grant (R96 to R99) -/

/-- ABANDON at the grant, in the order of R97: I is stopped, the cue ends MISSED LATE, the engine is IDLE, the next head is
judged, CUE_MISSED is raised. The record keeps the tick of this grant (R66, notes/assumptions/35.md). -/
def State.missLate (s : State) (i : Isl) (c : CueRec) (x : Src) : State :=
  let s := ((s.motorOff x).endCue c (fun r => { r.miss .late with lateStart := true, metGrant := some s.now })).engIdle i
  (s.settle i).raiseIsland i .cueMissed .warning (some c.id)

/-- The engine takes the grant of its request (R96 to R99). -/
def State.takeGrant (s : State) (i : Isl) (x : Src) : State :=
  match s.current i with
  | none => s
  | some c =>
    if (s.eng i).state == .armed && c.state == .armed && c.partner == some x then
      match s.slipOf i c with
      | none => s.startProceeds i c false false
      | some slip =>
        if slip ≤ (c.slipLimit.getD 0 : Int) then s.startProceeds i c (slip > 0) false
        else match c.policy with
          | some .abandon => s.missLate i c x
          | some .holdForPicture => s.startProceeds i c (slip > 0) true
          | some .fireAtMark | none => s.startProceeds i c (slip > 0) false
    else s

end Sys2Proof.Machine
end

