-- ==== Sys2Proof/Machine/Resolve.lean ====
section
/-! DEFINITION. The resolution of cues against the reel maps (R36, R37) and what the cue table does with a fresh outcome (R38
to R40), a map change among its causes (R35). -/

namespace Sys2Proof.Machine

/-- The segment of a map with a tag. -/
def segmentOf (m : List Segment) (tag : Nat) : Option Segment := m.find? (fun g => g.tag == tag)

/-- A spec's position on a source with this map, or the reason it has none: the first case of R36 that holds. -/
def resolveSpec (m : List Segment) : Spec → Except UnresReason Int
  | .absolute p => .ok p
  | .story tag offset anchor =>
    if m.isEmpty then .error .noMap
    else
      match segmentOf m tag with
      | none => .error .noTag
      | some g =>
        if offset > g.length then .error .outOfStory
        else
          match anchor with
          | .atStart => .ok (g.first + offset : Nat)
          | .atEnd => .ok (g.first + g.length - offset : Nat)

/-- The outcome of a resolution: the resolved values and the unresolved reason (R37, R38). -/
structure Resolution where
  t : Option Int
  q : Option Int
  reason : Option UnresReason
deriving DecidableEq, Repr

/-- The outcome of two spec results, the trigger's taken before the picture's; the trim moves the trigger alone (R37). -/
def combine (trim : Int) (t q : Option (Except UnresReason Int)) : Resolution :=
  match t, q with
  | some (.error e), _ => ⟨none, none, some e⟩
  | _, some (.error e) => ⟨none, none, some e⟩
  | some (.ok t), some (.ok q) => ⟨some (clampPos (t + trim)), some q, none⟩
  | some (.ok t), none => ⟨some (clampPos (t + trim)), none, none⟩
  | none, some (.ok q) => ⟨none, some q, none⟩
  | none, none => ⟨none, none, none⟩

/-- The map a picture spec is read against: the partner's. -/
def State.pictureMap (s : State) (c : CueRec) : List Segment := (c.partner.map s.map).getD []

/-- The fresh resolution of a record (R37). -/
def State.resolution (s : State) (c : CueRec) : Resolution :=
  combine c.trim (c.trigger.map (resolveSpec (s.map c.subject))) (c.picture.map (resolveSpec (s.pictureMap c)))

/-- The outcome a record holds. -/
def CueRec.held (c : CueRec) : Resolution := ⟨c.resT, c.resQ, c.unresolved⟩

/-- A record with an outcome stored. -/
def CueRec.store (c : CueRec) (r : Resolution) : CueRec := { c with resT := r.t, resQ := r.q, unresolved := r.reason }

/-- The disarm of an ARMED record: a MARK goes back to the mark watch, a CHANGEOVER or STOP to the engine's disarm (R39,
R50). -/
def State.disarmCue (s : State) (c : CueRec) : State :=
  if c.kind == .mark then s.modCue c.id (fun r => { r with state := .waiting }) else s.disarm c.island c

/-- The cue table stores a fresh outcome, by the record's state (R38 to R40): a WAITING record takes it, an ARMED one is
disarmed and takes it, and a MARK goes to the mark watch; a record in flight keeps the old and sets MAP_CHANGED. An amendment of
the late policy or the slip limit disarms an ARMED record whatever the outcome (R56). The head evaluation follows apart. -/
def State.storeOutcome (s : State) (c : CueRec) (r : Resolution) (policyChanged : Bool) : State :=
  match c.state with
  | .waiting => if c.held != r then (s.modCue c.id (fun c => c.store r)).armMark c.id else s
  | .armed =>
    if c.held != r || policyChanged then ((s.disarmCue c).modCue c.id (fun c => c.store r)).armMark c.id else s
  | .rolling | .ready | .firing =>
    if c.held != r then s.modCue c.id (fun c => { c with mapChanged := true }) else s
  | .done | .missed => s

/-- A fresh outcome takes the record to head evaluation: a WAITING or ARMED one that took it, and no MARK (R39, R56). -/
def CueRec.judgedAfter (c : CueRec) (r : Resolution) (policyChanged : Bool) : Bool :=
  c.kind != .mark && ((c.state == .waiting && c.held != r) || (c.state == .armed && (c.held != r || policyChanged)))

/-- A fresh outcome is stored, and the head evaluation it starts is carried out. -/
def State.takeOutcome (s : State) (c : CueRec) (r : Resolution) (policyChanged : Bool) : State :=
  let t := s.storeOutcome c r policyChanged
  if c.judgedAfter r policyChanged then t.settle c.island else t

/-- A spec is by story. -/
def Spec.isStory : Spec → Bool
  | .absolute _ => false
  | .story .. => true

/-- A record holds a story spec on a source (R35). -/
def CueRec.storyOn (c : CueRec) (x : Src) : Bool :=
  (c.subject == x && c.trigger.any Spec.isStory) || (c.partner == some x && c.picture.any Spec.isStory)

/-- One record is resolved afresh at a map change (R35 step 2). -/
def State.reresolve (s : State) (id : Nat) : State :=
  match s.cue id with
  | some c => s.storeOutcome c (s.resolution c) false
  | none => s

/-- A re-resolution at a map change of a source starts a head evaluation of an island (R35 step 3). -/
def State.mapMoves (s : State) (x : Src) (i : Isl) : Bool :=
  s.cues.any (fun c => c.island == i && c.storyOn x && c.judgedAfter (s.resolution c) false)

/-- A map change of a source (R35): its notice, every re-resolution, and then the head evaluations they start. -/
def State.mapChanged (s : State) (x : Src) : State :=
  (allIslands.filter (s.mapMoves x)).foldl State.settle
    ((s.cueIds (fun c => c.storyOn x)).foldl State.reresolve (s.post (.source x)))

/-- A map is given new segments, as a map change when they differ from the old (R32, R34, R35). -/
def State.changeMap (s : State) (x : Src) (m : List Segment) : State :=
  if s.map x = m then s else (s.setMap x m).mapChanged x

end Sys2Proof.Machine
end

