-- ==== Sys2Proof/Machine/CueCommands.lean ====
section
/-! DEFINITION. The commands on cue records: LOAD_CUE, AMEND_CUE, RETIRE_CUE. -/

namespace Sys2Proof.Machine

/-! ### The values that LOAD CUE and AMEND CUE check alike (R47 steps 7 and 8) -/

/-- A spec field that may be absent. -/
def SpecArg.optional : SpecArg → Option (Option Spec)
  | .absent => some none
  | .given (some v) => some (some v)
  | .given none => none

/-- A spec field that must be present. -/
def SpecArg.required : SpecArg → Option Spec
  | .absent => none
  | .given v => v

/-- A trim: −48 to +48. -/
def trimOf (t : Int) : Option Int := if -48 ≤ t && t ≤ 48 then some t else none

/-- A slip limit: 0 to 48. -/
def slipLimitOf (n : Nat) : Option Nat := if n ≤ 48 then some n else none

/-- The keep byte: 0 clear, 1 set (R172). -/
def keepOf (n : Nat) : Option Bool := if n = 0 then some false else if n = 1 then some true else none

/-! ### LOAD_CUE -/

/-- The numbers of a LOAD CUE, where they pass step 1 of R47: id, kind, subject, and the partner of a CHANGEOVER. -/
def loadNumbers (d : List Byte) : Option (Nat × CueKind × Src × Option Src) := do
  let id ← cueIdOf (wordAt d 0)
  let kind ← CueKind.ofCode (natAt d 2)
  let o ← srcOf (natAt d 3)
  match kind with
  | .changeover => do
    let x ← srcOf (natAt d 4)
    pure (id, kind, o, some x)
  | .stop | .mark => pure (id, kind, o, none)

/-- The parties fit the kind (R47 step 4). -/
def State.partiesFit (s : State) (kind : CueKind) (o : Src) (partner : Option Src) : Bool :=
  match kind with
  | .changeover => partner.any (fun x => (s.src x).island == (s.src o).island && x != o)
  | .stop | .mark => (s.src o).isFilm

/-- The trigger mode fits the kind and the subject (R47 step 5). -/
def State.modeFits (s : State) (kind : CueKind) (o : Src) (mode : TrigMode) : Bool :=
  match mode with
  | .position => (s.src o).isFilm
  | .take => kind != .mark

/-- The trigger spec of a LOAD CUE: present in POSITION mode alone (R47 steps 6 and 7). -/
def loadTrigger (mode : TrigMode) (arg : SpecArg) : Option (Option Spec) :=
  match mode with
  | .position => arg.required.map some
  | .take => if arg = .absent then some none else none

/-- A cue carries a picture spec: a CHANGEOVER whose I is a film source (R42). -/
def State.carriesPicture (s : State) (partner : Option Src) : Bool := partner.any (fun x => (s.src x).isFilm)

/-- The picture spec of a LOAD CUE: present for a CHANGEOVER with a film I alone (R47 steps 6 and 7). -/
def loadPicture (carries : Bool) (arg : SpecArg) : Option (Option Spec) :=
  if carries then arg.required.map some else if arg = .absent then some none else none

/-- The late policy and the slip limit of a LOAD CUE, read for a CHANGEOVER alone (R47 step 8, R48). -/
def loadPolicy (kind : CueKind) (policy slip : Nat) : Option (Option LatePolicy × Option Nat) :=
  match kind with
  | .changeover => do
    let p ← LatePolicy.ofCode policy
    let l ← slipLimitOf slip
    pure (some p, some l)
  | .stop | .mark => pure (none, none)

/-- The record a LOAD CUE asks for, where it passes steps 4 to 8 of R47, as R48 starts it and before its resolution. -/
def State.loadRecord (s : State) (d : List Byte) (form : Form) (id : Nat) (kind : CueKind) (o : Src)
    (partner : Option Src) : Option CueRec := do
  let island ← (s.src o).island
  let mode ← TrigMode.ofCode (natAt d 5)
  if s.partiesFit kind o partner && s.modeFits kind o mode then
    let trigger ← loadTrigger mode (specAt form (s.src o).stype.fpf d 7)
    let picture ← loadPicture (s.carriesPicture partner)
      (specAt form (partner.bind (fun x => (s.src x).stype.fpf)) d 12)
    let trim ← trimOf (signedAt d 17)
    let (policy, slip) ← loadPolicy kind (natAt d 18) (natAt d 19)
    let keep ← keepOf (natAt d 20)
    pure { id := id, island := island, kind := kind, subject := o, partner := partner, mode := mode, trigger := trigger,
           picture := picture, trim := trim, policy := policy, slipLimit := slip, keep := keep, state := .waiting,
           resT := none, resQ := none, unresolved := none, startPoint := none, slotRequested := false, blocked := none,
           fireO := none, fireI := none, fireErr := none, shortLeader := false, lateStart := false,
           notAtSpeed := false, heldForPicture := false, mapChanged := false, missCause := none,
           metGrant := none }
  else none

/-- A record enters the table resolved, with its notice, and a MARK goes to the mark watch (R48). -/
def State.createCue (s : State) (c : CueRec) : State :=
  (({ s with cues := s.cues ++ [c.store (s.resolution c)] } : State).post (.cue c.id)).armMark c.id

/-- The answer of a command that reports a record's image (R48). DESIGN CHOICE: its positions are in the form of the command's own
form byte (notes/assumptions/34.md). -/
def State.answerCue (s : State) (form : Form) (id : Nat) : Reply :=
  match s.cue id with
  | some c => s.answer (s.cueImage form c)
  | none => s.answer []

/-- The checks of R47 in their order, then R48. -/
def loadCueBody (p : Link) (d : List Byte) (s : State) : Reply :=
  match loadNumbers d with
  | none => s.refuse .badValue
  | some (id, kind, o, partner) =>
    s.checked [(!(s.src o).configured || partner.any (fun x => !(s.src x).configured), .noSuch),
        (!s.controlsOf p o, .notInControl)]
      (match formOf (natAt d 6) with
       | none => s.refuse .badValue
       | some form =>
         match s.loadRecord d form id kind o partner with
         | none => s.refuse .badValue
         | some c =>
           s.checked [((s.cue id).isSome, .duplicate), (s.cues.length ≥ maxCues, .tableFull)]
             ((s.createCue c).answerCue form id))

/-- LOAD CUE, code 0x10. -/
def loadCueCommand : Command := ⟨0x10, [21], loadCueBody⟩

/-- LOAD_CUE (R47, R48). -/
def execLoadCue (p : Link) (data : List Byte) (s : State) : Host.Outcome State Fault Refusal :=
  .next (s.runCommand loadCueCommand p data)

/-! ### AMEND_CUE -/

/-- A field is marked present by its bit of the presence byte (R172). Bits 6 and 7 are not read. -/
def marked (d : List Byte) (k : Nat) : Bool := (byteAt d 2).getLsbD k

/-- The fields an AMEND CUE gives are ones the cue carries (R55 step 5). -/
def CueRec.carriesAmended (c : CueRec) (d : List Byte) : Bool :=
  (!marked d 0 || c.mode == .position) && (!marked d 1 || c.picture.isSome)
    && (!(marked d 3 || marked d 4) || c.kind == .changeover)

/-- A field that is read only when it is marked present. -/
def amended {α : Type} (present : Bool) (old : α) (fresh : Option α) : Option α := if present then fresh else some old

/-- The record with every field the amendment carries stored, where they pass step 6 of R55. -/
def State.amendRecord (s : State) (d : List Byte) (form : Form) (c : CueRec) : Option CueRec := do
  let trigger ← amended (marked d 0) c.trigger ((specAt form (s.subjectGauge c) d 4).required.map some)
  let picture ← amended (marked d 1) c.picture ((specAt form (s.partnerGauge c) d 9).required.map some)
  let trim ← amended (marked d 2) c.trim (trimOf (signedAt d 14))
  let policy ← amended (marked d 3) c.policy ((LatePolicy.ofCode (natAt d 15)).map some)
  let slip ← amended (marked d 4) c.slipLimit ((slipLimitOf (natAt d 16)).map some)
  let keep ← amended (marked d 5) c.keep (keepOf (natAt d 17))
  pure { c with trigger := trigger, picture := picture, trim := trim, policy := policy, slipLimit := slip, keep := keep }

/-- The stored fields of an amended record, over the record that stands. -/
def CueRec.withFields (r c : CueRec) : CueRec :=
  { r with trigger := c.trigger, picture := c.picture, trim := c.trim, policy := c.policy, slipLimit := c.slipLimit,
           keep := c.keep }

/-- An amendment changes a spec or the trim, so that the record is resolved afresh (R38). -/
def CueRec.specsDiffer (old new : CueRec) : Bool :=
  old.trigger != new.trigger || old.picture != new.picture || old.trim != new.trim

/-- An amendment is stored and acted on (R56): its notice, then the fresh outcome. -/
def State.amendCue (s : State) (old new : CueRec) : State :=
  let s := (s.setCue old.id (fun r => r.withFields new)).post (.cue old.id)
  let outcome := if old.specsDiffer new then s.resolution new else old.held
  s.takeOutcome new outcome (old.policy != new.policy || old.slipLimit != new.slipLimit)

/-- A record past ARMED, or ended (R55 step 4). -/
def CueState.pastArmed (k : CueState) : Bool := k.inFlight || k.ended

/-- The checks of R55 in their order, then R56. -/
def amendCueBody (p : Link) (d : List Byte) (s : State) : Reply :=
  s.onCue p d (fun c =>
    s.checked [(c.state.pastArmed, .protectedRecord), (!c.carriesAmended d, .badValue)]
      (match formOf (natAt d 3) with
       | none => s.refuse .badValue
       | some form =>
         match s.amendRecord d form c with
         | none => s.refuse .badValue
         | some new => (s.amendCue c new).answerCue form c.id))

/-- AMEND CUE, code 0x11. -/
def amendCueCommand : Command := ⟨0x11, [18], amendCueBody⟩

/-- AMEND_CUE (R55, R56). -/
def execAmendCue (p : Link) (data : List Byte) (s : State) : Host.Outcome State Fault Refusal :=
  .next (s.runCommand amendCueCommand p data)

/-! ### RETIRE_CUE -/

/-- A record is retired: it leaves its rundown and the table, its notice is posted, and the next head is evaluated (R57). -/
def State.retireCue (s : State) (c : CueRec) : State :=
  (((s.unplace c.island c.id).removeCue c.id).post (.cue c.id)).settle c.island

/-- A command at this tick meets the grant that ended the record MISSED LATE and was taken first (R66). DESIGN CHOICE: the two meet
when they fall in one tick of the timebase (notes/assumptions/35.md). -/
def CueRec.meetsGrant (c : CueRec) (now : Nat) : Bool := c.state == .missed && c.metGrant == some now

/-- The checks of R57 in their order; a RETIRE CUE that meets the grant which ended the record MISSED LATE is refused PROTECTED
(R66), and one at a later tick retires it (R57). -/
def retireCueBody (p : Link) (d : List Byte) (s : State) : Reply :=
  s.onCue p d (fun c =>
    s.checked [(c.state.inFlight || c.state == .armed || c.meetsGrant s.now, .protectedRecord)] (s.retireCue c).accept)

/-- RETIRE CUE, code 0x14. -/
def retireCueCommand : Command := ⟨0x14, [2], retireCueBody⟩

/-- RETIRE_CUE (R57). -/
def execRetireCue (p : Link) (data : List Byte) (s : State) : Host.Outcome State Fault Refusal :=
  .next (s.runCommand retireCueCommand p data)

end Sys2Proof.Machine
end

