-- ==== Sys2Proof/Machine/Emergency.lean ====
section
/-! DEFINITION. The emergency changeover (section 8.5), the fault logic's taking of a fault (R130), and the handing on of a live
change (R109). -/

namespace Sys2Proof.Machine

/-! ### The emergency changeover -/

/-- A usable protect source in the state R147 asks: still and STILL_READY, or film and AT_SPEED, free of lockout. -/
def Source.standsBy (v : Source) : Bool :=
  v.lockout.isNone && (if v.isFilm then v.state == .atSpeed else v.state == .stillReady)

/-- The usable protect source of an island, when there is one (R147). -/
def State.usableProtect (s : State) (i : Isl) : Option Src :=
  match (s.isl i).protect with
  | some y => if s.live i != some y && (s.src y).standsBy then some y else none
  | none => none

/-- An emergency ends the cue the engine carries MISSED EMERGENCY: its request is withdrawn, or I is stopped unless it is
the protect source (R147 step 1). -/
def State.preempt (s : State) (i : Isl) : State :=
  match s.current i with
  | none => s
  | some c =>
    let s : State := match c.partner with
      | some x =>
        if (s.eng i).state == .armed then s.withdraw x
        else if (s.isl i).protect == some x then s
        else s.motorOff x
      | none => s
    s.endFlight i c .emergency

/-- The engine in SWITCHING toward the protect source (R147 step 2). -/
def Engine.emergency : Engine := { Engine.idle with state := .switching, switchKind := some .emergency }

/-- An emergency is taken (R147). -/
def State.takeEmergency (s : State) (i : Isl) : State :=
  let usable := s.usableProtect i
  let carried := (s.eng i).cue
  let s := if (s.eng i).carrying then s.preempt i else s
  match usable with
  | some y =>
    let s := ((s.modEng i (fun _ => Engine.emergency)).attemptTo i y).dowserOpen y
    s.raiseIsland i .emergencyTaken .urgent carried
  | none => s.raiseIsland i .noProtect .urgent carried

/-- The conditions under which an emergency is taken (R146). -/
def State.emergencyDue (s : State) (i : Isl) : Bool :=
  (s.isl i).emergEnable && !(s.eng i).moving && (s.live i).any (fun x => (s.src x).emergencyFault)

/-- The judgement of an emergency changeover (R146). -/
def State.judge (s : State) (i : Isl) : State := if s.emergencyDue i then s.takeEmergency i else s

/-- The judgement for the island a source is live in. -/
def State.judgeAt (s : State) (x : Src) : State :=
  match (s.src x).island with
  | some i => if s.live i == some x then s.judge i else s
  | none => s

/-! ### Taking a fault (R130) -/

/-- The conditions of a source are tested at a change of what they name, and an emergency is judged when LAMP_FAIL begins at
the live source (R25, R130, R146). DESIGN CHOICE: the conditions that the lockout of LAMP_FAIL ends are ended before the emergency
is judged (notes/assumptions/44.md). -/
def State.testSource (s : State) (x : Src) : State :=
  let struck := (s.newConds x).contains .lampFail
  let s := s.testConds x
  if struck then s.judgeAt x else s

/-- The fault logic takes an event fault that locks the source out: lockout, alarm, emergency judgement when it is
emergency-class and live, then the end of the conditions that its motor off or its lockout ended (R130). DESIGN CHOICE: that end
comes last, at a film loss, a STALL and a run-up timeout alike (notes/assumptions/43.md). -/
def State.takeLockingFault (s : State) (x : Src) (lock : LockCause) (cause : Cause) (sev : Severity) (captured : Option Int)
    (emergencyClass : Bool) : State :=
  let s := (s.setLockout x lock).raise (.source x) cause sev captured none
  let s := if emergencyClass then s.judgeAt x else s
  s.condEnds x

/-! ### A live change (R109) -/

/-- The new live source loses any tail stop while its motor stays on (R23). -/
def State.dropTail (s : State) (x : Src) : State := s.modSrc x (fun v => { v with tailStop := none })

/-- A source whose LAMP_FAIL condition is already present becomes live: it is raised again, URGENT (R132). -/
def State.raiseLampAgain (s : State) (x : Src) : State :=
  if (s.src x).conds.lampFail then (s.setLockout x .lampFail).raiseSource x .lampFail .urgent else s

/-- What the new live source does at a live change (R23, R25, R132). -/
def State.becomesLive (s : State) (x : Src) : State := ((s.dropTail x).raiseLampAgain x).testConds x

/-- The live source of an island has changed from `old`: the engine and the head evaluation take the change, then the source
units test their conditions, then the fault logic judges an emergency (R109, R146). DESIGN CHOICE: conditions end before the
judgement here too (notes/assumptions/44.md). -/
def State.liveChanged (s : State) (i : Isl) (old : Option Src) : State :=
  let s := s.settle i
  let s : State := match s.live i with
    | some x => s.becomesLive x
    | none => s
  let s : State := match old with
    | some x => s.testConds x
    | none => s
  (s.judge i).settle i

/-- A live change is handed on when there is one; otherwise the island is settled. -/
def State.handLive (s : State) (i : Isl) (old : Option Src) : State :=
  if s.live i != old then (s.post (.island i)).liveChanged i old else s.settle i

end Sys2Proof.Machine
end

