-- ==== Sys2Proof/Machine/IslandCommands.lean ====
section
/-! DEFINITION. The commands on islands: CONFIGURE_ISLAND, FIRE_NOW, ABORT_CHANGEOVER, CUT_TO, ISLAND_RESET. -/

namespace Sys2Proof.Machine

/-! ### CONFIGURE_ISLAND -/

/-- A protect source byte: 1 to 8, or 0 for none (R111 step 3). -/
def protectByte (n : Nat) : Option (Option Src) := if n = 0 then some none else (srcOf n).map some

/-- An enable byte: 0 off, 1 on (R172). -/
def enableByte (n : Nat) : Option Bool := if n = 0 then some false else if n = 1 then some true else none

/-- The three fields of a CONFIGURE ISLAND, where they pass step 3 of R111. -/
def islandArg (d : List Byte) : Option (Option Src × Bool × Nat) := do
  let protect ← protectByte (natAt d 1)
  let enable ← enableByte (natAt d 2)
  if wordAt d 3 ≤ 2000 then pure (protect, enable, wordAt d 3) else none

/-- An island takes its configuration: a changed M reaches an ARMED cue's preroll before the request (R93, R111). -/
def State.configureIsland (s : State) (i : Isl) (protect : Option Src) (enable : Bool) (margin : Nat) : State :=
  let old := (s.isl i).margin
  let s := (s.setIsl i { s.isl i with protect := protect, emergEnable := enable, margin := margin }).post (.island i)
  let s := if margin != old then s.recompute i else s
  s.settle i

/-- The checks of R111 in their order, then its effects. -/
def configureIslandBody (p : Link) (d : List Byte) (s : State) : Reply :=
  s.onIsland p d (fun i =>
    match islandArg d with
    | none => s.refuse .badValue
    | some (protect, enable, margin) =>
      s.checked [(protect.any (fun x => !(s.src x).configured), .noSuch),
          (protect.any (fun x => (s.src x).island != some i), .badValue)]
        (s.configureIsland i protect enable margin).accept)

/-- CONFIGURE ISLAND, code 0x40. -/
def configureIslandCommand : Command := ⟨0x40, [5], configureIslandBody⟩

/-- CONFIGURE_ISLAND (R111). -/
def execConfigureIsland (p : Link) (data : List Byte) (s : State) : Host.Outcome State Fault Refusal :=
  .next (s.runCommand configureIslandCommand p data)

/-! ### FIRE_NOW -/

/-- Take-pending sets on a CHANGEOVER: the request is made at once when it was not, and a READY cue fires (R117). -/
def State.takeNow (s : State) (i : Isl) (c : CueRec) : State :=
  if (s.eng i).takePending then s
  else
    let s := s.modEng i (fun e => { e with takePending := true, triggerReached := false })
    match (s.eng i).state, c.partner with
    | .armed, some x => if (s.src x).isFilm && !c.slotRequested then s.askSlot i c.id x else s
    | .ready, some x => s.fireReady i x
    | _, _ => s

/-- FIRE NOW is taken for the current cue of an engine (R117, R122). -/
def State.fireNow (s : State) (i : Isl) : State :=
  match s.current i with
  | none => s
  | some c =>
    let s := if c.kind == .stop then s.fireStop i c else s.takeNow i c
    s.settle i

/-- The checks of R117 in their order, then its effects. -/
def fireNowBody (p : Link) (d : List Byte) (s : State) : Reply :=
  s.onIsland p d (fun i =>
    s.checked [((s.eng i).state == .idle, .notArmed), ((s.eng i).moving, .busy)] (s.fireNow i).accept)

/-- FIRE NOW, code 0x41. -/
def fireNowCommand : Command := ⟨0x41, [1], fireNowBody⟩

/-- FIRE_NOW (R117). -/
def execFireNow (p : Link) (data : List Byte) (s : State) : Host.Outcome State Fault Refusal :=
  .next (s.runCommand fireNowCommand p data)

/-! ### ABORT_CHANGEOVER -/

/-- The engine gives up I: the request is withdrawn while ARMED, the motor stops in ROLLING and READY (R125 step 1). -/
def State.giveUpIncoming (s : State) (i : Isl) (c : CueRec) : State :=
  match c.partner with
  | some x => if (s.eng i).state == .armed then s.withdraw x else s.motorOff x
  | none => s

/-- The current cue of an engine is aborted, and the next head is judged (R125). -/
def State.abort (s : State) (i : Isl) : State :=
  match s.current i with
  | none => s
  | some c => ((s.giveUpIncoming i c).endFlight i c .aborted).settle i

/-- The checks of R125 in their order, then its effects. -/
def abortBody (p : Link) (d : List Byte) (s : State) : Reply :=
  s.onIsland p d (fun i =>
    s.checked [((s.eng i).state == .idle, .notArmed), ((s.eng i).moving, .protectedRecord)] (s.abort i).accept)

/-- ABORT CHANGEOVER, code 0x42. -/
def abortCommand : Command := ⟨0x42, [1], abortBody⟩

/-- ABORT_CHANGEOVER (R125). -/
def execAbortChangeover (p : Link) (data : List Byte) (s : State) : Host.Outcome State Fault Refusal :=
  .next (s.runCommand abortCommand p data)

/-! ### CUT_TO -/

/-- The engine in SWITCHING for a CUT, with the return position and the origin of the moment it is taken (R123). -/
def Engine.cutting (back : Option InPos) (origin : Option Src) : Engine :=
  { Engine.idle with state := .switching, switchKind := some .cut, returnPos := back, origin := some origin }

/-- A cut begins (R123): the engine, the mirror, the dowser, then the head evaluation. -/
def State.cutTo (s : State) (i : Isl) (x : Src) : State :=
  let s := s.modEng i (fun _ => Engine.cutting (s.isl i).sensed (s.live i))
  ((s.attemptTo i x).dowserOpen x).settle i

/-- The checks of R123 in their order, then its effects. The frame carries the island and the source (R123, log entry 32). -/
def cutToBody (p : Link) (d : List Byte) (s : State) : Reply :=
  match islOf (natAt d 0), srcOf (natAt d 1) with
  | some i, some x =>
    s.checked [(!(s.src x).configured, .noSuch), (!s.controls p i, .notInControl),
        ((s.src x).island != some i, .badValue), ((s.eng i).state != .idle, .busy), ((s.src x).lockout.isSome, .busy),
        (s.live i == some x, .badValue)]
      (s.cutTo i x).accept
  | _, _ => s.refuse .badValue

/-- CUT TO, code 0x43. -/
def cutToCommand : Command := ⟨0x43, [2], cutToBody⟩

/-- CUT_TO (R123). -/
def execCutTo (p : Link) (data : List Byte) (s : State) : Host.Outcome State Fault Refusal :=
  .next (s.runCommand cutToCommand p data)

/-! ### ISLAND_RESET -/

/-- The incoming of a roll is stopped, or the request of an ARMED cue is withdrawn (R128 steps 1 and 2). -/
def State.resetIncoming (s : State) (i : Isl) : State :=
  match s.current i with
  | some c => s.giveUpIncoming i c
  | none => s

/-- Every record of an island leaves the table with its notice, and the rundown is emptied (R65, R74). -/
def State.retireIsland (s : State) (i : Isl) : State :=
  let ids := s.cueIds (fun c => c.island == i)
  let s := ({ s with cues := s.cues.filter (fun c => c.island != i) } : State).setRundown i []
  ids.foldl (fun s id => s.post (.cue id)) s

/-- An island reset (R128). -/
def State.resetIsland (s : State) (i : Isl) : State :=
  ((((s.resetIncoming i).engIdle i).retireIsland i).post (.island i)).settle i

/-- The checks of R128 in their order, then its effects. -/
def islandResetBody (p : Link) (d : List Byte) (s : State) : Reply :=
  s.onIsland p d (fun i => s.checked [((s.eng i).moving, .protectedRecord)] (s.resetIsland i).accept)

/-- ISLAND RESET, code 0x44. -/
def islandResetCommand : Command := ⟨0x44, [1], islandResetBody⟩

/-- ISLAND_RESET (R65, R128). -/
def execIslandReset (p : Link) (data : List Byte) (s : State) : Host.Outcome State Fault Refusal :=
  .next (s.runCommand islandResetCommand p data)

end Sys2Proof.Machine
end

