-- ==== Sys2Proof/Machine/MapCommands.lean ====
section
/-! DEFINITION. The commands on reel maps: SET_SEGMENT, DROP_SEGMENT, CLEAR_MAP. -/

namespace Sys2Proof.Machine

/-! ### SET_SEGMENT -/

/-- The segment a SET SEGMENT asks for, where its values pass step 2 of R31. -/
def segmentArg (fpf : Option Nat) (d : List Byte) : Option Segment := do
  let form ← formOf (natAt d 3)
  let first ← posAt form fpf d 4
  let tag := wordAt d 1
  let length := wordAt d 7
  if 1 ≤ tag && tag ≤ 4095 && 0 ≤ first && 1 ≤ length && first + (length : Int) ≤ posMax then
    pure ⟨tag, first.toNat, length⟩
  else none

/-- Two segments overlap when some frame is covered by both (R30). -/
def Segment.overlaps (g h : Segment) : Bool := g.first < h.first + h.length && h.first < g.first + g.length

/-- The segments of a map with other tags. -/
def otherTags (m : List Segment) (tag : Nat) : List Segment := m.filter (fun g => g.tag != tag)

/-- A segment inserted at the place its first frame gives (R30, R32). -/
def insertSegment (g : Segment) : List Segment → List Segment
  | [] => [g]
  | h :: rest => if g.first ≤ h.first then g :: h :: rest else h :: insertSegment g rest

/-- A map with a segment added or put in the place of the one that carries its tag; a map that holds it already stays as it
is (R32). -/
def withSegment (m : List Segment) (g : Segment) : List Segment :=
  if m.contains g then m else insertSegment g (otherTags m g.tag)

/-- The checks of R31 in their order, then R32. -/
def setSegmentBody (p : Link) (d : List Byte) (s : State) : Reply :=
  s.onSource p d (fun x =>
    s.checked [((s.src x).isStill, .badValue)]
      (match segmentArg (s.src x).stype.fpf d with
       | none => s.refuse .badValue
       | some g =>
         s.checked [((otherTags (s.map x) g.tag).any g.overlaps, .overlap),
             ((segmentOf (s.map x) g.tag).isNone && (s.map x).length ≥ maxSegments, .listFull)]
           (s.changeMap x (withSegment (s.map x) g)).accept))

/-- SET SEGMENT, code 0x20. -/
def setSegmentCommand : Command := ⟨0x20, [9], setSegmentBody⟩

/-- SET_SEGMENT (R31, R32). -/
def execSetSegment (p : Link) (data : List Byte) (s : State) : Host.Outcome State Fault Refusal :=
  .next (s.runCommand setSegmentCommand p data)

/-! ### DROP_SEGMENT -/

/-- The checks of R33, then the removal. -/
def dropSegmentBody (p : Link) (d : List Byte) (s : State) : Reply :=
  s.onSource p d (fun x =>
    let tag := wordAt d 1
    s.checked [(!(1 ≤ tag && tag ≤ 4095), .badValue), ((segmentOf (s.map x) tag).isNone, .noSuch)]
      (s.changeMap x (otherTags (s.map x) tag)).accept)

/-- DROP SEGMENT, code 0x21. -/
def dropSegmentCommand : Command := ⟨0x21, [3], dropSegmentBody⟩

/-- DROP_SEGMENT (R33). -/
def execDropSegment (p : Link) (data : List Byte) (s : State) : Host.Outcome State Fault Refusal :=
  .next (s.runCommand dropSegmentCommand p data)

/-! ### CLEAR_MAP -/

/-- The map is emptied (R34). -/
def clearMapBody (p : Link) (d : List Byte) (s : State) : Reply :=
  s.onSource p d (fun x => (s.changeMap x []).accept)

/-- CLEAR MAP, code 0x22. -/
def clearMapCommand : Command := ⟨0x22, [1], clearMapBody⟩

/-- CLEAR_MAP (R34). -/
def execClearMap (p : Link) (data : List Byte) (s : State) : Host.Outcome State Fault Refusal :=
  .next (s.runCommand clearMapCommand p data)

end Sys2Proof.Machine
end

