-- ==== Sys2Proof/Machine/Reads.lean ====
section
/-! DEFINITION. The reads: READ_PART_STATUS, READ_SOURCE, READ_ISLAND, READ_CUE, READ_CUE_SPEC, READ_RUNDOWN, READ_MAP,
READ_ALARMS, READ_NOTICES, and NOTICE_ENABLES. None needs control (R152). -/

namespace Sys2Proof.Machine

/-! ### READ_PART_STATUS (R164) -/

/-- The read answers the image and clears the restart flag of its own port. -/
def readPartStatusBody (p : Link) (_ : List Byte) (s : State) : Reply :=
  (s.setPort p { s.port p with restart := false }).answer (s.statusImage p)

/-- READ PART STATUS, code 0x01. -/
def readPartStatusCommand : Command := ⟨0x01, [0], readPartStatusBody⟩

/-- READ_PART_STATUS (R164). -/
def execReadPartStatus (p : Link) (data : List Byte) (s : State) : Host.Outcome State Fault Refusal :=
  .next (s.runCommand readPartStatusCommand p data)

/-! ### READ_SOURCE (R165) -/

/-- The source image in the form asked. -/
def readSourceBody (_ : Link) (d : List Byte) (s : State) : Reply :=
  match srcOf (natAt d 0), formOf (natAt d 1) with
  | some x, some form => s.answer (s.sourceImage form x)
  | _, _ => s.refuse .badValue

/-- READ SOURCE, code 0x02. -/
def readSourceCommand : Command := ⟨0x02, [2], readSourceBody⟩

/-- READ_SOURCE (R165). -/
def execReadSource (p : Link) (data : List Byte) (s : State) : Host.Outcome State Fault Refusal :=
  .next (s.runCommand readSourceCommand p data)

/-! ### READ_ISLAND (R108) -/

/-- The island image. -/
def readIslandBody (_ : Link) (d : List Byte) (s : State) : Reply :=
  match islOf (natAt d 0) with
  | some i => s.answer (s.islandImage i)
  | none => s.refuse .badValue

/-- READ ISLAND, code 0x03. -/
def readIslandCommand : Command := ⟨0x03, [1], readIslandBody⟩

/-- READ_ISLAND (R108). -/
def execReadIsland (p : Link) (data : List Byte) (s : State) : Host.Outcome State Fault Refusal :=
  .next (s.runCommand readIslandCommand p data)

/-! ### READ_CUE and READ_CUE_SPEC (section 3.9) -/

/-- The checks of the two reads of a record, then an image of it. -/
def State.readRecord (s : State) (d : List Byte) (image : Form → CueRec → List Byte) : Reply :=
  match cueIdOf (wordAt d 0), formOf (natAt d 2) with
  | some id, some form =>
    match s.cue id with
    | some c => s.answer (image form c)
    | none => s.refuse .noSuch
  | _, _ => s.refuse .badValue

/-- The cue image (R62). -/
def readCueBody (_ : Link) (d : List Byte) (s : State) : Reply := s.readRecord d s.cueImage

/-- READ CUE, code 0x04. -/
def readCueCommand : Command := ⟨0x04, [3], readCueBody⟩

/-- READ_CUE (R62). -/
def execReadCue (p : Link) (data : List Byte) (s : State) : Host.Outcome State Fault Refusal :=
  .next (s.runCommand readCueCommand p data)

/-- The cue spec image (R63). -/
def readCueSpecBody (_ : Link) (d : List Byte) (s : State) : Reply := s.readRecord d s.cueSpecImage

/-- READ CUE SPEC, code 0x05. -/
def readCueSpecCommand : Command := ⟨0x05, [3], readCueSpecBody⟩

/-- READ_CUE_SPEC (R63). -/
def execReadCueSpec (p : Link) (data : List Byte) (s : State) : Host.Outcome State Fault Refusal :=
  .next (s.runCommand readCueSpecCommand p data)

/-! ### READ_RUNDOWN (R69) -/

/-- The count, the start index and up to 16 ids from it on. -/
def readRundownBody (_ : Link) (d : List Byte) (s : State) : Reply :=
  match islOf (natAt d 0) with
  | none => s.refuse .badValue
  | some i =>
    let start := natAt d 1
    s.checked [(start > 31, .badValue)]
      (s.answer ([byteOf (s.rundown i).length, byteOf start] ++ packIds (((s.rundown i).drop start).take 16)))

/-- READ RUNDOWN, code 0x06. -/
def readRundownCommand : Command := ⟨0x06, [2], readRundownBody⟩

/-- READ_RUNDOWN (R69). -/
def execReadRundown (p : Link) (data : List Byte) (s : State) : Host.Outcome State Fault Refusal :=
  .next (s.runCommand readRundownCommand p data)

/-! ### READ_MAP (R165) -/

/-- The count, the start index and up to 4 segments from it on. -/
def readMapBody (_ : Link) (d : List Byte) (s : State) : Reply :=
  match srcOf (natAt d 0) with
  | none => s.refuse .badValue
  | some x =>
    let start := natAt d 1
    s.checked [(start > 11, .badValue)]
      (s.answer ([byteOf (s.map x).length, byteOf start] ++ (((s.map x).drop start).take 4).flatMap Segment.image))

/-- READ MAP, code 0x07. -/
def readMapCommand : Command := ⟨0x07, [2], readMapBody⟩

/-- READ_MAP (R165). -/
def execReadMap (p : Link) (data : List Byte) (s : State) : Host.Outcome State Fault Refusal :=
  .next (s.runCommand readMapCommand p data)

/-! ### READ_ALARMS (R145) -/

/-- The count, the overflow flag with the bell and lamp, the start index and up to 3 records from it on (R145, R173). DESIGN CHOICE:
the lamp is coded as in the part status image, and bits 4 to 7 are 0 (notes/assumptions/46.md). -/
def readAlarmsBody (_ : Link) (d : List Byte) (s : State) : Reply :=
  let start := natAt d 0
  let a := s.alarms
  s.checked [(start > 23, .badValue)]
    (s.answer ([byteOf a.records.length, byteOf (flagBit a.overflow 0 + flagBit a.bell 1 + 4 * a.lamp.code), byteOf start]
      ++ ((a.records.drop start).take 3).flatMap AlarmRec.image))

/-- READ ALARMS, code 0x08. -/
def readAlarmsCommand : Command := ⟨0x08, [1], readAlarmsBody⟩

/-- READ_ALARMS (R145). -/
def execReadAlarms (p : Link) (data : List Byte) (s : State) : Host.Outcome State Fault Refusal :=
  .next (s.runCommand readAlarmsCommand p data)

/-! ### READ_NOTICES (R167) -/

/-- A port after a read of its notices: up to 8 leave from the front, and a set left empty clears the overflow flag. -/
def Port.drained (q : Port) : Port :=
  { q with notices := q.notices.drop 8, overflow := q.overflow && !(q.notices.drop 8).isEmpty }

/-- The entries removed, with the number returned, the number left and the overflow flag before the read (R167, R173). DESIGN CHOICE:
the flag's byte is 0 clear, 1 set (notes/assumptions/46.md). -/
def readNoticesBody (p : Link) (_ : List Byte) (s : State) : Reply :=
  let q := s.port p
  (s.setPort p q.drained).answer
    ([byteOf (q.notices.take 8).length, byteOf (q.notices.drop 8).length, byteOf q.overflow.toNat]
      ++ (q.notices.take 8).flatMap Notice.image)

/-- READ NOTICES, code 0x09. -/
def readNoticesCommand : Command := ⟨0x09, [0], readNoticesBody⟩

/-- READ_NOTICES (R167). -/
def execReadNotices (p : Link) (data : List Byte) (s : State) : Host.Outcome State Fault Refusal :=
  .next (s.runCommand readNoticesCommand p data)

/-! ### NOTICE_ENABLES (R168) -/

/-- A port with its four enables set from an enables byte (R172). -/
def Port.enabled (q : Port) (b : Byte) : Port :=
  { q with enCue := b.getLsbD 0, enSource := b.getLsbD 1, enIsland := b.getLsbD 2, enAlarm := b.getLsbD 3 }

/-- The four flags are stored at the port that carried them, and answered as stored. -/
def noticeEnablesBody (p : Link) (d : List Byte) (s : State) : Reply :=
  s.checked [(natAt d 0 > 15, .badValue)]
    (let q := (s.port p).enabled (byteAt d 0)
     (s.setPort p q).answer [byteOf q.enables])

/-- NOTICE ENABLES, code 0x70. -/
def noticeEnablesCommand : Command := ⟨0x70, [1], noticeEnablesBody⟩

/-- NOTICE_ENABLES (R168). -/
def execNoticeEnables (p : Link) (data : List Byte) (s : State) : Host.Outcome State Fault Refusal :=
  .next (s.runCommand noticeEnablesCommand p data)

end Sys2Proof.Machine
end

