-- ==== Sys2Proof/Machine/Resets.lean ====
section
/-! DEFINITION. The resets: POWER_ON, RESET_INPUT_ASSERTED, PART_RESET, and RESPONSE_END, at which an accepted PART RESET is
taken (R26, R163, R170, R174). -/

namespace Sys2Proof.Machine

/-! ### POWER_ON and RESET_INPUT_ASSERTED -/

/-- A source record at power-on, its sense lines as the pins stand (R26). -/
def Source.atPowerOn (v : Source) : Source :=
  { Source.powerOn with film := v.film, loop := v.loop, lamp := v.lamp, ready := v.ready, dirForward := v.dirForward }

/-- An island record at power-on, its mirror lines as the pins stand; the drift timer starts when they read BETWEEN (R108,
R110). -/
def Island.atPowerOn (v : Island) (primary : Link) (now : Nat) : Island :=
  { Island.reset with mirrorLines := v.mirrorLines, control := primary,
                      driftTimer := if v.sensed.isNone then some (now + driftSpan) else none }

/-- Every block at its power-on values, with the pins, the timebase and the queue as they are. -/
def State.atPowerOn (s : State) (address : BitVec 4) (primary : Link) : State :=
  { State.reset with sources := s.sources.map Source.atPowerOn,
                     islands := s.islands.map (fun v => v.atPowerOn primary s.now),
                     unitAddress := address, primaryLink := primary, strapAddress := address, strapPrimary := primary,
                     now := s.now, pending := s.pending }

/-- POWER_ON (R26, R158, R170): the straps are read, and no notice is posted. -/
def execPowerOn (address : BitVec 4) (primary : Link) (s : State) : Host.Outcome State Fault Refusal :=
  .next (s.atPowerOn address primary)

/-- An island record while the reset input is asserted: power-on values, its timers stopped. -/
def Island.held (v : Island) (primary : Link) : Island :=
  { Island.reset with mirrorLines := v.mirrorLines, control := primary, driftTimer := none }

/-- The part held in reset (R174): every output off, closed and released, no timer running, no frame taken. -/
def State.heldInReset (s : State) : State :=
  { State.reset with sources := s.sources.map Source.atPowerOn,
                     islands := s.islands.map (fun v => v.held s.primaryLink),
                     unitAddress := s.unitAddress, primaryLink := s.primaryLink, strapAddress := s.strapAddress,
                     strapPrimary := s.strapPrimary, resetAsserted := true, now := s.now, pending := s.pending }

/-- RESET_INPUT_ASSERTED (R174). -/
def execResetInputAsserted (s : State) : Host.Outcome State Fault Refusal := .next s.heldInReset

/-! ### PART_RESET -/

/-- PART RESET is taken from the primary link; the reset itself follows its response (R170). -/
def partResetBody (p : Link) (_ : List Byte) (s : State) : Reply :=
  s.checked [(p != s.primaryLink, .notPrimary)] (s.setPort p { s.port p with resetPending := true }).accept

/-- PART RESET, code 0x7F. -/
def partResetCommand : Command := ⟨0x7F, [0], partResetBody⟩

/-- PART_RESET (R170). -/
def execPartReset (p : Link) (data : List Byte) (s : State) : Host.Outcome State Fault Refusal :=
  .next (s.runCommand partResetCommand p data)

/-- A source record at PART RESET: the configuration is kept (R1, R26). -/
def Source.atPartReset (v : Source) : Source :=
  { v.atPowerOn with stype := v.stype, island := v.island, inputPos := v.inputPos, n := v.n, runUp := v.runUp,
                     travel := v.travel, tail := v.tail }

/-- An island record at PART RESET: the protect source, the emergency enable and the margin are kept (R108). -/
def Island.atPartReset (v : Island) (primary : Link) (now : Nat) : Island :=
  { v.atPowerOn primary now with protect := v.protect, emergEnable := v.emergEnable, margin := v.margin }

/-- The port that is not the one whose response ended: a response it is sending is sent to its end (R170). -/
def Port.atPartReset (q : Port) : Port :=
  if q.recv = .answer then { Port.powerOn with recv := .answer, response := q.response } else Port.powerOn

/-- Steps 1 to 3 of R170, at the end of the response sent at a port. -/
def State.clearedForReset (s : State) (p : Link) : State :=
  ({ State.reset with sources := s.sources.map Source.atPartReset,
                      islands := s.islands.map (fun v => v.atPartReset s.strapPrimary s.now),
                      unitAddress := s.strapAddress, primaryLink := s.strapPrimary, strapAddress := s.strapAddress,
                      strapPrimary := s.strapPrimary, now := s.now, pending := s.pending } : State).setPort p.other
    (s.port p.other).atPartReset

/-- A notice is an ALARM notice. -/
def Notice.isAlarm : Notice → Bool
  | .alarm _ _ => true
  | .cue _ | .source _ | .island _ => false

/-- Only ALARM notices stay in a port's set. -/
def Port.alarmsOnly (q : Port) : Port := { q with notices := q.notices.filter Notice.isAlarm }

/-- The notices that stand after the reset: the ALARM ones, then one for each island (R170 step 4). -/
def State.resetNotices (s : State) : State :=
  allIslands.foldl (fun s i => s.post (.island i)) { s with desk := s.desk.alarmsOnly, panel := s.panel.alarmsOnly }

/-- The reset of an accepted PART RESET (R170): the values, the conditions afresh, the notices. DESIGN CHOICE: the sources are
tested from S1 to S8, each judged for an emergency before the next is tested (notes/assumptions/40.md). -/
def State.partReset (s : State) (p : Link) : State :=
  (allSources.foldl State.testSource (s.clearedForReset p)).resetNotices

/-! ### RESPONSE_END -/

/-- The port releases the line and returns to HUNT (R163). -/
def Port.released (q : Port) : Port := { q with recv := .hunt, response := [] }

/-- The last byte of a response has left the line; an accepted PART RESET is taken then (R163, R170). -/
def State.responseEnd (s : State) (p : Link) : State :=
  if (s.port p).recv = .answer then
    if (s.port p).resetPending then s.partReset p else s.setPort p (s.port p).released
  else s

/-- RESPONSE_END (R163). -/
def execResponseEnd (p : Link) (s : State) : Host.Outcome State Fault Refusal := .next (s.responseEnd p)

end Sys2Proof.Machine
end

