-- ==== Sys2Proof/Machine/RundownCommands.lean ====
section
/-! DEFINITION. The commands on rundowns: PLACE_CUE, WITHDRAW_CUE, CLEAR_RUNDOWN. -/

namespace Sys2Proof.Machine

/-! ### PLACE_CUE -/

/-- The places of PLACE CUE (R70). -/
inductive Place where
  | head | atEnd | after (reference : Nat)
deriving DecidableEq, Repr

/-- The place a PLACE CUE names, `none` where step 1 of R70 refuses it. The reference id is read for AFTER alone. -/
def placeOf (d : List Byte) : Option Place :=
  if natAt d 2 = 1 then some .head
  else if natAt d 2 = 2 then some .atEnd
  else if natAt d 2 = 3 then (cueIdOf (wordAt d 3)).map Place.after
  else none

/-- An id inserted directly behind another. -/
def insertAfter (reference id : Nat) : List Nat → List Nat
  | [] => []
  | k :: rest => if k == reference then k :: id :: rest else k :: insertAfter reference id rest

/-- A rundown with an id placed in it (R71). -/
def placedIn (ids : List Nat) (id : Nat) : Place → List Nat
  | .head => id :: ids
  | .atEnd => ids ++ [id]
  | .after reference => insertAfter reference id ids

/-- The reference of an AFTER is not in the rundown (R70 step 7). -/
def Place.lacks (ids : List Nat) : Place → Bool
  | .head | .atEnd => false
  | .after reference => !ids.contains reference

/-- The head of an island is in flight (R70 step 9). -/
def State.headInFlight (s : State) (i : Isl) : Bool := (s.head i).any (fun c => c.state.inFlight)

/-- A record gives up its blocked reason (R76). -/
def State.unblock (s : State) (id : Nat) : State := s.modCue id (fun r => { r with blocked := none })

/-- The old head is dealt with before a placement at HEAD: disarmed when ARMED, unblocked when WAITING (R71). -/
def State.demoteHead (s : State) (i : Isl) : State :=
  match s.head i with
  | none => s
  | some h => if h.state == .armed then s.disarm i h else s.unblock h.id

/-- A cue is placed, and the head of its island is judged (R71). -/
def State.placeCue (s : State) (c : CueRec) (w : Place) : State :=
  let s := if w = .head then s.demoteHead c.island else s
  let s := (s.setRundown c.island (placedIn (s.rundown c.island) c.id w)).post (.cue c.id)
  s.settle c.island

/-- The checks of R70 in their order, then R71. -/
def placeCueBody (p : Link) (d : List Byte) (s : State) : Reply :=
  match cueIdOf (wordAt d 0), placeOf d with
  | some id, some w =>
    match s.cue id with
    | none => s.refuse .noSuch
    | some c =>
      s.checked [(!s.controls p c.island, .notInControl), (c.kind == .mark, .badValue), (s.placed c, .duplicate),
          (c.state != .waiting, .protectedRecord), (w.lacks (s.rundown c.island), .noSuch),
          ((s.rundown c.island).length ≥ maxRundown, .listFull),
          (w = .head && s.headInFlight c.island, .protectedRecord)]
        (s.placeCue c w).accept
  | _, _ => s.refuse .badValue

/-- PLACE CUE, code 0x12. -/
def placeCueCommand : Command := ⟨0x12, [5], placeCueBody⟩

/-- PLACE_CUE (R70, R71). -/
def execPlaceCue (p : Link) (data : List Byte) (s : State) : Host.Outcome State Fault Refusal :=
  .next (s.runCommand placeCueCommand p data)

/-! ### WITHDRAW_CUE -/

/-- A record leaves its rundown without ending: disarmed first when ARMED, its blocked reason removed, its notice posted
(R72 steps 1 to 3). -/
def State.takeOut (s : State) (c : CueRec) : State :=
  let s := if c.state == .armed then s.disarm c.island c else s
  ((s.unplace c.island c.id).unblock c.id).post (.cue c.id)

/-- The checks of R72 in their order, the withdrawal, and the evaluation of the head it leaves. -/
def withdrawCueBody (p : Link) (d : List Byte) (s : State) : Reply :=
  s.onCue p d (fun c =>
    s.checked [(!s.placed c, .noSuch), (c.state.inFlight, .protectedRecord)] ((s.takeOut c).settle c.island).accept)

/-- WITHDRAW CUE, code 0x13. -/
def withdrawCueCommand : Command := ⟨0x13, [2], withdrawCueBody⟩

/-- WITHDRAW_CUE (R72). -/
def execWithdrawCue (p : Link) (data : List Byte) (s : State) : Host.Outcome State Fault Refusal :=
  .next (s.runCommand withdrawCueCommand p data)

/-! ### CLEAR_RUNDOWN -/

/-- An entry is withdrawn unless its record is in flight (R73). -/
def State.clearEntry (s : State) (id : Nat) : State :=
  match s.cue id with
  | some c => if c.state.inFlight then s else s.takeOut c
  | none => s

/-- Every WAITING and ARMED entry of a rundown is withdrawn (R73). -/
def State.clearEntries (s : State) (i : Isl) : State := (s.rundown i).foldl State.clearEntry s

/-- The checks of R73, then the withdrawals. -/
def clearRundownBody (p : Link) (d : List Byte) (s : State) : Reply :=
  s.onIsland p d (fun i => ((s.clearEntries i).settle i).accept)

/-- CLEAR RUNDOWN, code 0x15. -/
def clearRundownCommand : Command := ⟨0x15, [1], clearRundownBody⟩

/-- CLEAR_RUNDOWN (R73). -/
def execClearRundown (p : Link) (data : List Byte) (s : State) : Host.Outcome State Fault Refusal :=
  .next (s.runCommand clearRundownCommand p data)

end Sys2Proof.Machine
end

