-- ==== Sys2Proof/Machine/SourceCommands.lean ====
section
/-! DEFINITION. The commands on sources: CONFIGURE_SOURCE, ZERO_COUNTER, RUN, STOP, INCH_TO, DOWSER, HOLD, LOCKOUT,
CLEAR_LOCKOUT. -/

namespace Sys2Proof.Machine

/-! ### CONFIGURE_SOURCE: its arguments and checks (R2) -/

/-- The configuration fields of a source record (R1). -/
structure SourceConfig where
  stype : SourceType
  island : Option Isl
  inputPos : Option InPos
  n : Nat
  runUp : Nat
  travel : Nat
  tail : Nat
deriving DecidableEq, Repr

/-- An island byte: 1 to 4, or 0 for none. DESIGN CHOICE: the range is checked for every type, UNUSED among them
(notes/assumptions/33.md). -/
def islandByte (n : Nat) : Option (Option Isl) := if n = 0 then some none else (islOf n).map some

/-- The configuration of a film source, where its values pass step 1 of R2. -/
def filmConfig (t : SourceType) (i : Isl) (k : InPos) (n u dd tail : Nat) : Option SourceConfig :=
  if 1600 ≤ n && n ≤ 3000 && u ≤ 15000 && dd ≤ 400 && tail ≤ 480 && dd ≤ ceilDiv (n * u) 100000 then
    some ⟨t, some i, some k, n, u, dd, tail⟩
  else none

/-- The configuration a CONFIGURE SOURCE stores, where its values pass step 1 of R2. The fields a type does not carry take
the values of R3. -/
def configArg (island : Option Isl) (d : List Byte) : Option SourceConfig :=
  match SourceType.ofCode (natAt d 1) with
  | none => none
  | some .unused => some ⟨.unused, none, none, 2400, 0, 0, 0⟩
  | some .still =>
    match island, inPosOf (natAt d 3) with
    | some i, some k => some ⟨.still, some i, some k, 2400, 0, 0, 0⟩
    | _, _ => none
  | some t =>
    match island, inPosOf (natAt d 3) with
    | some i, some k => filmConfig t i k (wordAt d 4) (wordAt d 6) (wordAt d 8) (wordAt d 10)
    | _, _ => none

/-- The islands whose control a CONFIGURE SOURCE needs: the one it names for a configured type, and the one the source is in
(R152). -/
def State.controlsConfig (s : State) (p : Link) (x : Src) (island : Option Isl) (type : Nat) : Bool :=
  (SourceType.ofCode type == some .unused || island.all (s.controls p)) && s.controlsOf p x

/-- The engine of a source's island moves the mirror to or from it: it is the target of the move, the origin of a CUT, or the
source assigned to the return position (R2 step 2). -/
def State.inMove (s : State) (x : Src) : Bool :=
  match (s.src x).island with
  | none => false
  | some i =>
    let e := s.eng i
    e.moving && (e.drive.bind (s.sourceAt i) == some x || e.origin == some (some x)
      || e.returnPos.bind (s.sourceAt i) == some x)

/-- The source is in use (R2 step 2). -/
def State.inUse (s : State) (x : Src) : Bool :=
  s.isLive x || s.cues.any (fun c => c.names x && c.state.inFlight) || s.slotHeld x || s.inMove x

/-- The change of type or island is barred (R2 step 3). -/
def State.changeBarred (s : State) (x : Src) (g : SourceConfig) : Bool :=
  let v := s.src x
  ((g.stype != v.stype || g.island != v.island) && s.cues.any (fun c => c.names x))
    || (g.stype != v.stype && (v.motor || v.inch || s.arbiter.asked x || v.rate > 0))

/-- Another configured source has the island and input position named (R2 step 4). -/
def State.clashes (s : State) (x : Src) (g : SourceConfig) : Bool :=
  g.stype != .unused
    && allSources.any (fun y => y != x && (s.src y).configured && (s.src y).island == g.island
        && (s.src y).inputPos == g.inputPos)

/-! ### CONFIGURE_SOURCE: its effects (R3) -/

/-- A record given a configuration. -/
def Source.configuredAs (v : Source) (g : SourceConfig) : Source :=
  { v with stype := g.stype, island := g.island, inputPos := g.inputPos, n := g.n, runUp := g.runUp, travel := g.travel,
           tail := g.tail }

/-- The effects of a change of type: the counter, the rate measurement and its timer are cleared. -/
def Source.retyped (v : Source) : Source :=
  { v with pos := none, intervals := [], pulseRef := none, silenceTimer := none }

/-- The effects of a change to UNUSED: hold and lockout clear. -/
def Source.unusedNow (v : Source) : Source := { v with hold := false, lockout := none }

/-- A change of n takes effect at once: a band flag outside the leave band clears (R3). -/
def Source.rebanded (v : Source) : Source := { v with band := v.band && rateDiff v.rate v.n ≤ v.n / 25 }

/-- The dowser stands closed at an UNUSED source, and at a film source as R14 says. -/
def Source.shaded (v : Source) : Source := { v with dowser := v.dowser && v.configured && !v.filmDark }

/-- The record of a source after an accepted CONFIGURE SOURCE (R3). -/
def Source.reconfigured (v : Source) (g : SourceConfig) : Source :=
  let w := v.configuredAs g
  let w := if g.stype != v.stype then w.retyped else w
  let w := if g.stype == .unused then w.unusedNow else w
  w.rebanded.shaded

/-- The protect source of the island a source leaves becomes absent (R108). -/
def State.dropProtect (s : State) (x : Src) (old : Option Isl) : State :=
  match old with
  | none => s
  | some i =>
    if (s.isl i).protect == some x && (s.src x).island != some i then
      (s.setIsl i { s.isl i with protect := none }).post (.island i)
    else s

/-- An ARMED cue's start point follows a change of its I's n, U or D (R93). -/
def State.followConfig (s : State) (x : Src) (old : Source) : State :=
  let v := s.src x
  match v.island with
  | some i =>
    if (s.current i).any (fun c => c.partner == some x)
        && (v.n != old.n || v.runUp != old.runUp || v.travel != old.travel) then s.recompute i
    else s
  | none => s

/-- A live change of a concerned island is handed on; otherwise the island is settled (R3, R109). -/
def State.handConfig (s : State) (island : Option Isl) (before : Isl → Option Src) : State :=
  match island with
  | some i => s.handLive i (before i)
  | none => s

/-- An accepted CONFIGURE SOURCE (R3): the record, its SOURCE notice, its map, the islands concerned, then the conditions the new
figures begin or end (R25). -/
def State.configure (s : State) (x : Src) (g : SourceConfig) : State :=
  let v := s.src x
  let before := s.live
  let s := (s.modSrc x (fun v => v.reconfigured g)).post (.source x)
  let s := if g.stype != v.stype then s.changeMap x [] else s
  let s := (s.dropProtect x v.island).followConfig x v
  let s := s.handConfig v.island before
  let s := if g.island == v.island then s else s.handConfig g.island before
  s.testSource x

/-- The checks of R2 in their order, then R3. -/
def configureSourceBody (p : Link) (d : List Byte) (s : State) : Reply :=
  match srcOf (natAt d 0), islandByte (natAt d 2) with
  | some x, some island =>
    s.checked [(!s.controlsConfig p x island (natAt d 1), .notInControl)]
      (match configArg island d with
       | none => s.refuse .badValue
       | some g =>
         s.checked [(s.inUse x, .busy), (s.changeBarred x g, .busy), (s.clashes x g, .duplicate)]
           (s.configure x g).accept)
  | _, _ => s.refuse .badValue

/-- CONFIGURE SOURCE, code 0x30. -/
def configureSourceCommand : Command := ⟨0x30, [12], configureSourceBody⟩

/-- CONFIGURE_SOURCE (R2, R3). -/
def execConfigureSource (p : Link) (data : List Byte) (s : State) : Host.Outcome State Fault Refusal :=
  .next (s.runCommand configureSourceCommand p data)

/-! ### ZERO_COUNTER -/

/-- The value of a ZERO COUNTER: 0 with one data byte, otherwise a position argument (R172). -/
def zeroValue (fpf : Option Nat) (d : List Byte) : Option Int :=
  if d.length = 1 then some 0
  else
    match formOf (natAt d 1) with
    | some form => posAt form fpf d 2
    | none => none

/-- The counter cannot be set (R17 step 1). -/
def Source.counterBusy (v : Source) : Bool := !v.isFilm || !v.film || v.rate > 0 || v.motor || v.inch

/-- The counter is set and valid; the conditions, the mark watch and the head evaluation take the change (R17, R60). -/
def State.zeroCounter (s : State) (x : Src) (p : Int) : State :=
  let s := (s.modSrc x (fun v => { v with pos := some p })).testSource x
  (s.armMarks x).settleOf x

/-- The checks of R17 in their order, then its effects. -/
def zeroCounterBody (p : Link) (d : List Byte) (s : State) : Reply :=
  s.onSource p d (fun x =>
    s.checked [((s.src x).counterBusy, .busy), (s.inFlightParty x, .busy)]
      (match zeroValue (s.src x).stype.fpf d with
       | none => s.refuse .badValue
       | some v => (s.zeroCounter x v).accept))

/-- ZERO COUNTER, code 0x31; it accepts a count of 1 or 5 (R162). -/
def zeroCounterCommand : Command := ⟨0x31, [1, 5], zeroCounterBody⟩

/-- ZERO_COUNTER (R17). -/
def execZeroCounter (p : Link) (data : List Byte) (s : State) : Host.Outcome State Fault Refusal :=
  .next (s.runCommand zeroCounterCommand p data)

/-! ### RUN -/

/-- RUN is taken (R18): a running motor loses its tail stop, a waiting request stays, otherwise a request is made. -/
def State.runSource (s : State) (x : Src) : State :=
  let s := if (s.src x).motor then s.modSrc x (fun v => { v with tailStop := none }) else s.request x .run
  s.settleOf x

/-- The checks of R18 in their order, then its effects. -/
def runBody (p : Link) (d : List Byte) (s : State) : Reply :=
  s.onSource p d (fun x =>
    let v := s.src x
    s.checked [(v.isStill, .badValue), (v.lockout.isSome, .busy), (v.hold, .busy),
        (v.state == .inching || v.state == .unloaded, .busy), (s.isIncoming x, .busy)]
      (s.runSource x).accept)

/-- RUN, code 0x32. -/
def runSourceCommand : Command := ⟨0x32, [1], runBody⟩

/-- RUN (R18). -/
def execRun (p : Link) (data : List Byte) (s : State) : Host.Outcome State Fault Refusal :=
  .next (s.runCommand runSourceCommand p data)

/-! ### STOP -/

/-- A STOP that names the I of an ARMED cue disarms it (R127). -/
def State.stopAtIncoming (s : State) (x : Src) : State :=
  match (s.src x).island with
  | none => s
  | some i =>
    match s.current i with
    | some c => if (s.eng i).state == .armed && c.partner == some x then s.disarm i c else s
    | none => s

/-- STOP is taken (R19): the request is withdrawn, the motor and inch outputs go off, the tail stop is removed; the engine and
the head evaluation take what it did to a party. -/
def State.stopSource (s : State) (x : Src) : State :=
  let s := ((s.stopAtIncoming x).withdraw x).motorOff x
  let s := s.modSrc x (fun v => { v.inchOff with tailStop := none })
  s.settleOf x

/-- The checks of R19, then its effects. -/
def stopBody (p : Link) (d : List Byte) (s : State) : Reply :=
  s.onSource p d (fun x => s.checked [((s.src x).isStill, .badValue)] (s.stopSource x).accept)

/-- STOP, code 0x33. -/
def stopCommand : Command := ⟨0x33, [1], stopBody⟩

/-- STOP (R19). -/
def execStop (p : Link) (data : List Byte) (s : State) : Host.Outcome State Fault Refusal :=
  .next (s.runCommand stopCommand p data)

/-! ### INCH_TO -/

/-- The target of an INCH TO, where it passes step 6 of R20. -/
def inchArg (v : Source) (d : List Byte) : Option Int :=
  match formOf (natAt d 1) with
  | none => none
  | some form => (posAt form v.stype.fpf d 2).filter (fun t => v.pos.any (· < t))

/-- The record of a source that begins to inch (R20). -/
def Source.inching (v : Source) (target : Int) (now : Nat) : Source :=
  { v with inch := true, inchTarget := some target, inchTimer := some (now + inchSpan) }

/-- The checks of R20 in their order, then the start of inching. -/
def inchToBody (p : Link) (d : List Byte) (s : State) : Reply :=
  s.onSource p d (fun x =>
    let v := s.src x
    s.checked [(v.isStill, .badValue), (v.lockout.isSome, .busy), (v.state != .parked, .busy), (s.arbiter.asked x, .busy),
        (s.isIncoming x, .busy)]
      (match inchArg v d with
       | none => s.refuse .badValue
       | some t => ((s.modSrc x (fun v => v.inching t s.now)).settleOf x).accept))

/-- INCH TO, code 0x34. -/
def inchToCommand : Command := ⟨0x34, [5], inchToBody⟩

/-- INCH_TO (R20). -/
def execInchTo (p : Link) (data : List Byte) (s : State) : Host.Outcome State Fault Refusal :=
  .next (s.runCommand inchToCommand p data)

/-! ### DOWSER -/

/-- An OPEN that R21 refuses. -/
def Source.openRefused (v : Source) : Bool := v.openBarred || (v.isStill && !v.ready)

/-- The checks of R21, then the dowser. -/
def dowserBody (p : Link) (d : List Byte) (s : State) : Reply :=
  s.onAction p d (fun x a =>
    s.checked [(s.isLive x, .busy), (s.inFlightParty x, .busy)]
      (match a with
       | .first => s.checked [((s.src x).openRefused, .busy)] (s.dowserOpen x).accept
       | .second => (s.dowserClose x).accept))

/-- DOWSER, code 0x35. -/
def dowserCommand : Command := ⟨0x35, [2], dowserBody⟩

/-- DOWSER (R21). -/
def execDowser (p : Link) (data : List Byte) (s : State) : Host.Outcome State Fault Refusal :=
  .next (s.runCommand dowserCommand p data)

/-! ### HOLD -/

/-- Hold sets: a waiting start request is withdrawn and the head evaluation sees the hold (R16). -/
def State.setHold (s : State) (x : Src) : State :=
  ((s.modSrc x (fun v => { v with hold := true })).withdraw x).settleOf x

/-- Hold clears and the head is evaluated (R16). -/
def State.clearHold (s : State) (x : Src) : State := (s.modSrc x (fun v => { v with hold := false })).settleOf x

/-- SET or CLEAR of the hold (R16). -/
def holdBody (p : Link) (d : List Byte) (s : State) : Reply :=
  s.onAction p d (fun x a =>
    match a with
    | .first => (s.setHold x).accept
    | .second => (s.clearHold x).accept)

/-- HOLD, code 0x36. -/
def holdCommand : Command := ⟨0x36, [2], holdBody⟩

/-- HOLD (R16). -/
def execHold (p : Link) (data : List Byte) (s : State) : Host.Outcome State Fault Refusal :=
  .next (s.runCommand holdCommand p data)

/-! ### LOCKOUT and CLEAR_LOCKOUT -/

/-- Lockout sets with cause MANUAL; the conditions that needed the motor end, and the island takes the change (R22). -/
def State.lockManual (s : State) (x : Src) : State := ((s.setLockout x .manual).condEnds x).settleOf x

/-- The cause of a lockout persists (R135). DESIGN CHOICE: the film and lamp senses are read at a source of any type
(notes/assumptions/39.md). -/
def Source.causePersists (v : Source) : Bool :=
  v.conds.lampFail ||
    match v.lockout with
    | none | some .manual => false
    | some .filmBreak => !v.film
    | some .lampFail => !v.lamp
    | some .stall | some .runupTimeout => v.rate > 0

/-- Lockout clears and the head evaluation takes the change (R135). -/
def State.clearLock (s : State) (x : Src) : State := (s.modSrc x (fun v => { v with lockout := none })).settleOf x

/-- The two forms of the LOCKOUT command: SET (R22) and CLEAR (R135). -/
def lockoutBody (p : Link) (d : List Byte) (s : State) : Reply :=
  s.onAction p d (fun x a =>
    match a with
    | .first => s.checked [(s.isLive x, .busy)] (s.lockManual x).accept
    | .second => s.checked [((s.src x).causePersists, .faultPresent)] (s.clearLock x).accept)

/-- LOCKOUT, code 0x37. -/
def lockoutCommand : Command := ⟨0x37, [2], lockoutBody⟩

/-- LOCKOUT (R22). -/
def execLockout (p : Link) (data : List Byte) (s : State) : Host.Outcome State Fault Refusal :=
  .next (s.runCommand lockoutCommand p data)

/-- CLEAR_LOCKOUT (R135): the LOCKOUT command with the action CLEAR. -/
def execClearLockout (p : Link) (source : Byte) (s : State) : Host.Outcome State Fault Refusal :=
  .next (s.runCommand lockoutCommand p [source, 2])

end Sys2Proof.Machine
end

