-- ==== Sys2Proof/Machine/Frames.lean ====
section
/-! DEFINITION. The reception of frames: BYTE_RECEIVED, FRAME_DISCARDED, FRAME_IGNORED, INTER_BYTE_TIMEOUT, UNKNOWN_COMMAND
(R159 to R162). -/

namespace Sys2Proof.Machine

/-! ### Taking a frame by its code -/

/-- The command set (section 10.4). -/
def commandSet : List Command :=
  [readPartStatusCommand, readSourceCommand, readIslandCommand, readCueCommand, readCueSpecCommand, readRundownCommand,
   readMapCommand, readAlarmsCommand, readNoticesCommand]
  ++ [loadCueCommand, amendCueCommand, placeCueCommand, withdrawCueCommand, retireCueCommand, clearRundownCommand]
  ++ [setSegmentCommand, dropSegmentCommand, clearMapCommand]
  ++ [configureSourceCommand, zeroCounterCommand, runSourceCommand, stopCommand, inchToCommand, dowserCommand, holdCommand,
   lockoutCommand]
  ++ [configureIslandCommand, fireNowCommand, abortCommand, cutToCommand, islandResetCommand]
  ++ [acknowledgeAlarmCommand, acknowledgeAllCommand, silenceBellCommand]
  ++ [giveControlCommand, takeControlCommand, seizeControlCommand]
  ++ [noticeEnablesCommand, partResetCommand]

/-- The command with a code. -/
def commandOf (code : Byte) : Option Command := commandSet.find? (fun c => c.code == code)

/-- The reply to a taken frame: the frame-level checks of R162 in their order, then the owning block. -/
def frameReply (p : Link) (code : Byte) (count : Nat) (data : List Byte) (s : State) : Reply :=
  if count > 32 then s.refuse .badLength
  else
    match commandOf code with
    | none => s.refuse .unknownCommand
    | some c => c.reply p data s

/-- A frame is taken at a port and answered (R160, R162, R163). -/
def State.takeFrame (s : State) (p : Link) (code : Byte) (count : Nat) (data : List Byte) : State :=
  if s.takes p then (frameReply p code count data (s.enterAnswer p)).send p code else s

/-- UNKNOWN_COMMAND (R162). -/
def execUnknownCommand (p : Link) (code : Byte) (data : List Byte) (s : State) : Host.Outcome State Fault Refusal :=
  .next (s.takeFrame p code data.length data)

/-! ### Bytes on the line -/

/-- A port returned to HUNT with nothing of a frame held (R159, R160). -/
def Port.hunting (q : Port) : Port := { q with recv := .hunt, buf := [], received := 0, check := 0, interByte := none }

/-- The frame a port is receiving is lost. A port sending an answer is left as it is (R159). -/
def State.loseFrame (s : State) (p : Link) : State :=
  if (s.port p).recv = .answer then s else s.setPort p (s.port p).hunting

/-- A port that has seen the SYNC of a frame (R159, HUNT). -/
def Port.synced (q : Port) (now : Nat) : Port :=
  { q with recv := .receive, buf := [], received := 0, check := 0, interByte := some (now + interByteSpan) }

/-- A port that has taken one more byte of a frame; data bytes are stored up to the 32nd (R159, RECEIVE). -/
def Port.taken (q : Port) (b : Byte) (now : Nat) : Port :=
  { q with buf := if q.received < 35 then q.buf ++ [b] else q.buf, received := q.received + 1, check := crcFold q.check b,
           interByte := some (now + interByteSpan) }

/-- The count of the frame being received. -/
def Port.count (q : Port) : Nat := natAt q.buf 2

/-- The next byte is the check byte: the address, the code, the count and the count's number of data bytes have come
(R159). -/
def Port.atCheck (q : Port) : Bool := q.received ≥ 3 && q.received == 3 + q.count

/-- The judgement of a frame at its check byte (R160). -/
def State.judgeFrame (s : State) (p : Link) (b : Byte) : State :=
  let q := s.port p
  if b != q.check then s.loseFrame p
  else if byteAt q.buf 0 != s.unitAddress.setWidth 8 then s.loseFrame p
  else s.takeFrame p (byteAt q.buf 1) q.count (q.buf.drop 3)

/-- A byte arrives at a port, by its reception state (R159). The part held in reset takes none (R174). -/
def State.byteReceived (s : State) (p : Link) (b : Byte) : State :=
  let q := s.port p
  if s.resetAsserted then s
  else
    match q.recv with
    | .answer => s
    | .hunt => if b = 0xC3 then s.setPort p (q.synced s.now) else s
    | .receive => if q.atCheck then s.judgeFrame p b else s.setPort p (q.taken b s.now)

/-- BYTE_RECEIVED (R159). -/
def execByteReceived (p : Link) (b : Byte) (s : State) : Host.Outcome State Fault Refusal := .next (s.byteReceived p b)

/-- FRAME_DISCARDED (R160 step 1). -/
def execFrameDiscarded (p : Link) (s : State) : Host.Outcome State Fault Refusal := .next (s.loseFrame p)

/-- FRAME_IGNORED (R160 step 2). -/
def execFrameIgnored (p : Link) (s : State) : Host.Outcome State Fault Refusal := .next (s.loseFrame p)

/-- INTER_BYTE_TIMEOUT (R159). A stopped timer does not expire. -/
def execInterByteTimeout (p : Link) (s : State) : Host.Outcome State Fault Refusal :=
  .next (match (s.port p).interByte with
    | some t => (s.reachTick t).loseFrame p
    | none => s)

end Sys2Proof.Machine
end

