-- ==== Sys2Proof/Machine/LineEvents.lean ====
section
/-! DEFINITION. The events of a source's sense lines: FILM_SENSE_LOST, FILM_SENSE_RETURN, LAMP_SENSE_CHANGE, LOOP_SENSE_CHANGE,
READY_INPUT_CHANGE. At a source whose type has no such line only the pin follows. -/

namespace Sys2Proof.Machine

/-! ### FILM_SENSE_LOST -/

/-- The loss of O's film while its cue is ROLLING or READY ends the cue, whatever its mode (R126). -/
def State.filmLostAtOutgoing (s : State) (x : Src) : State :=
  match (s.src x).island with
  | none => s
  | some i =>
    match s.current i with
    | none => s
    | some c =>
      match c.partner with
      | some y =>
        if c.subject == x && ((s.eng i).state == .rolling || (s.eng i).state == .ready) then s.loseOutgoing i c y else s
      | none => s

/-- The local effects of a film loss (R24). -/
def State.filmLossEffects (s : State) (x : Src) : State :=
  ((s.modSrc x (fun v => { v with film := false })).motorCut x).modSrc x
    (fun v => { v.inchOff with dowser := false, pos := none })

/-- The fault of a film lost with the motor on, by the note made before the local effects (R131). -/
def State.filmFault (s : State) (x : Src) (struck : Bool) (p : Option Int) : State :=
  if struck then s.takeLockingFault x .filmBreak .filmBreak .urgent p true
  else s.raise (.source x) .runout .warning p none

/-- The loss of the film sense of a film source (R24, R60, R131). DESIGN CHOICE: the fault is raised, and its emergency judged, before
the conditions that the motor off and the lost counter end are ended (notes/assumptions/43.md). -/
def State.filmLost (s : State) (x : Src) : State :=
  let v := s.src x
  let struck := s.isLive x || s.isIncoming x
  let s := s.filmLossEffects x
  let s := if v.motor then s.filmFault x struck v.pos else s
  ((((s.condEnds x).disarmMarks x).filmLostAtOutgoing x)).settleOf x

/-- FILM_SENSE_LOST (R24). -/
def execFilmSenseLost (x : Src) (s : State) : Host.Outcome State Fault Refusal :=
  .next (if (s.src x).isFilm && (s.src x).film then s.filmLost x
    else s.setSrc x { s.src x with film := false })

/-! ### The other lines -/

/-- FILM_SENSE_RETURN (R24): the counter stays invalid. -/
def execFilmSenseReturn (x : Src) (s : State) : Host.Outcome State Fault Refusal :=
  .next ((s.modSrc x (fun v => { v with film := true })).settleOf x)

/-- LAMP_SENSE_CHANGE (R25, R132). -/
def execLampSenseChange (x : Src) (lit : Bool) (s : State) : Host.Outcome State Fault Refusal :=
  .next (((s.modSrc x (fun v => { v with lamp := lit })).testSource x).settleOf x)

/-- LOOP_SENSE_CHANGE (R25). -/
def execLoopSenseChange (x : Src) (closed : Bool) (s : State) : Host.Outcome State Fault Refusal :=
  .next (((s.modSrc x (fun v => { v with loop := closed })).testSource x).settleOf x)

/-- READY_INPUT_CHANGE (R5). -/
def execReadyInputChange (x : Src) (ready : Bool) (s : State) : Host.Outcome State Fault Refusal :=
  .next ((s.modSrc x (fun v => { v with ready := ready })).settleOf x)

end Sys2Proof.Machine
end

