-- ==== Sys2Proof/Machine/MirrorEvents.lean ====
section
/-! DEFINITION. The events of the mirrors and of the arbiter: MIRROR_SENSE_CHANGE, MIRROR_ATTEMPT_TIMEOUT, DRIFT_TIMEOUT,
SLOT_GRANT. -/

namespace Sys2Proof.Machine

/-! ### MIRROR_SENSE_CHANGE -/

/-- The drift timer at a change of the sensed position (R110). -/
def State.driftFollow (s : State) (i : Isl) : State :=
  if (s.isl i).sensed.isSome then s.driftStop i
  else if (s.eng i).moving then s else s.driftStart i

/-- The engine has returned to IDLE from a move: the head evaluation, then the emergency judgement (R112, R146). -/
def State.moveOver (s : State) (i : Isl) : State := ((s.settle i).judge i).settle i

/-- The sensed position of an island has changed; `old` was its live source (R109). DESIGN CHOICE: a live change and the engine's
return to IDLE in one mirror event are judged for an emergency once (R146, notes/assumptions/45.md). -/
def State.sensedChanged (s : State) (i : Isl) (old : Option Src) : State :=
  let moving := (s.eng i).moving
  let s := ((s.post (.island i)).driftFollow i).confirm i
  if s.live i != old then s.liveChanged i old
  else if moving && !(s.eng i).moving then s.moveOver i
  else s

/-- The mirror sense lines of an island take levels (R109, R174). -/
def State.mirrorLinesChange (s : State) (i : Isl) (lines : BitVec 4) : State :=
  let old := s.live i
  let was := (s.isl i).sensed
  let s := s.setIsl i { s.isl i with mirrorLines := lines }
  if s.resetAsserted || (s.isl i).sensed == was then s else s.sensedChanged i old

/-- MIRROR_SENSE_CHANGE (R109, R174). -/
def execMirrorSenseChange (i : Isl) (lines : BitVec 4) (s : State) : Host.Outcome State Fault Refusal :=
  .next (s.mirrorLinesChange i lines)

/-! ### MIRROR_ATTEMPT_TIMEOUT -/

/-- The attempt timer's expiry (R119): the next attempt, the failure of the move, or the end of a return. The return to IDLE
after a failed EMERGENCY switch is no moment of judgement (R148). -/
def State.attemptExpiry (s : State) (i : Isl) : State :=
  let e := s.eng i
  match e.state, e.drive with
  | .switching, some target =>
    if e.attempts.getD 3 < 3 then s.attempt i target (e.attempts.getD 0 + 1)
    else
      let s := s.failMove i
      if (s.eng i).moving || e.switchKind == some .emergency then s.settle i else s.moveOver i
  | .switching, none => (s.failMove i).settle i
  | .returning, _ => (s.moveEnd i).moveOver i
  | .idle, _ | .armed, _ | .rolling, _ | .ready, _ => s

/-- MIRROR_ATTEMPT_TIMEOUT (R119). A stopped timer does not expire. -/
def execMirrorAttemptTimeout (i : Isl) (s : State) : Host.Outcome State Fault Refusal :=
  .next (match (s.eng i).attemptTimer with
    | some t => (s.reachTick t).attemptExpiry i
    | none => s)

/-! ### DRIFT_TIMEOUT -/

/-- The drift timer's expiry: LIVE_NONE is present and raised (R110, R133). -/
def State.driftExpiry (s : State) (i : Isl) : State :=
  (s.setIsl i { s.isl i with driftTimer := none, liveNone := true }).raiseIsland i .liveNone .urgent none

/-- DRIFT_TIMEOUT (R110). A stopped timer does not expire. -/
def execDriftTimeout (i : Isl) (s : State) : Host.Outcome State Fault Refusal :=
  .next (match (s.isl i).driftTimer with
    | some t => (s.reachTick t).driftExpiry i
    | none => s)

/-! ### SLOT_GRANT -/

/-- The arbiter's part of a grant (R103 step 1). -/
def State.giveSlot (s : State) (r : Request) : State :=
  ({ s with arbiter := { s.arbiter with due := s.arbiter.due.drop 1 }.give r.source } : State).post (.source r.source)

/-- A decided grant is taken (R103): the slot, the motor, then the engine that asked. -/
def State.grant (s : State) (r : Request) : State :=
  let s := s.giveSlot r
  let s := (s.modSrc r.source (fun v => v.motorOn s.now)).testSource r.source
  let s := match r.origin with
    | .engine i => s.takeGrant i r.source
    | .run => s
  s.settleOf r.source

/-- SLOT_GRANT (R103): the first grant decided, when a slot is free for it. -/
def execSlotGrant (s : State) : Host.Outcome State Fault Refusal :=
  .next (match s.arbiter.due with
    | r :: _ => if s.arbiter.free > 0 then s.grant r else s
    | [] => s)

end Sys2Proof.Machine
end

