-- ==== Sys2Proof/Machine/SourceEvents.lean ====
section
/-! DEFINITION. The events of a source unit's pulses and timers: FRAME_PULSE, SILENCE_TIMEOUT, INCH_TIMEOUT, RUNUP_TIMEOUT. -/

namespace Sys2Proof.Machine

/-! ### FRAME_PULSE -/

/-- The record of a film source after a pulse is measured into its rate (R9, R10, R11, R14). -/
def Source.measured (v : Source) (now : Nat) : Source :=
  match v.pulseRef with
  | none => { v with pulseRef := some now, silenceTimer := some (now + silenceSpan) }
  | some t0 =>
    let store := pushInterval v.intervals (pulseInterval t0 now)
    let r := measuredRate store
    let b := bandAfter v.motor v.band store.length r v.n
    { v with intervals := store, rate := r, band := b, reached := v.reached || b,
             dowser := v.dowser && !autoSafe r v.n,
             pulseRef := some now, silenceTimer := some (now + silenceSpan) }

/-- The record of a film source after a pulse, measured and counted (R7). -/
def Source.pulsed (v : Source) (forward : Bool) (now : Nat) : Source :=
  { v.measured now with pos := v.pos.map (countPulse forward), dirForward := forward }

/-- The first setting of the band flag after a motor start stops the run-up timer and releases the slot (R11, R104). -/
def State.reachSpeed (s : State) (x : Src) : State :=
  (s.setSrc x { s.src x with runupTimer := none }).release x

/-- The engine takes a pulse of O: the start point from the new rate, the request test, then the crossing of t (R91, R94,
R115, R122). -/
def State.outgoingPulse (s : State) (i : Isl) (c : CueRec) (sample forward : Bool) (before after : Option Int) : State :=
  let s :=
    if c.state == .armed && !c.slotRequested && s.hasPreroll c then
      if sample then s.computeStart i c.id else if forward then s.testStart i c.id else s
    else s
  if c.resT.any (crosses before after) then
    match c.kind with
    | .stop => if c.state == .armed then s.fireStop i c else s
    | .changeover =>
      if (s.eng i).takePending || (s.eng i).holdPicture then s
      else match s.current i with
        | some c => s.decide i c
        | none => s
    | .mark => s
  else s

/-- The engine takes a pulse that leaves I PARKED with a leader of 0 to 4800 (R92). A leader outside that range disarms the
cue at the re-judgement that follows (R81). -/
def State.incomingPulse (s : State) (i : Isl) (c : CueRec) (x : Src) : State :=
  match (s.src x).pos, c.resQ with
  | some p, some q =>
    if c.state == .armed && (s.src x).state == .parked && p ≤ q && q - p ≤ maxLeader then s.recompute i else s
  | _, _ => s

/-- The engine of the source's island takes a position update and a rate sample (R6). -/
def State.enginePulse (s : State) (x : Src) (sample forward : Bool) (before after : Option Int) : State :=
  match (s.src x).island with
  | none => s
  | some i =>
    match s.current i with
    | none => s
    | some c =>
      if c.subject == x then s.outgoingPulse i c sample forward before after
      else if c.partner == some x then s.incomingPulse i c x
      else s

/-- A pulse at a film source (R7): measured, counted, then handed to the source's own targets and conditions, the mark watch
and the engine, and the island is settled. -/
def State.pulse (s : State) (x : Src) (forward : Bool) : State :=
  let v := s.src x
  let after := v.pos.map (countPulse forward)
  let s := s.modSrc x (fun v => v.pulsed forward s.now)
  let s := if (s.src x).reached && !v.reached then s.reachSpeed x else s
  let s := if v.tailStop.any (crosses v.pos after) then s.motorCut x else s
  let s := if v.inchTarget.any (crosses v.pos after) then s.inchOff x else s
  let s := (s.testSource x).crossMarks x v.pos after
  (s.enginePulse x v.pulseRef.isSome forward v.pos after).settleOf x

/-- FRAME_PULSE (R7): the timebase moves on by the ticks elapsed, the direction line is read (R174), and a film source takes
the pulse. A pulse at a still or UNUSED source is not taken. -/
def execFramePulse (x : Src) (forward : Bool) (elapsed : Nat) (s : State) : Host.Outcome State Fault Refusal :=
  let s := s.reachTick (s.now + elapsed)
  .next (if (s.src x).isFilm then s.pulse x forward else s.setSrc x { s.src x with dirForward := forward })

/-! ### SILENCE_TIMEOUT -/

/-- The record of a source at silence expiry (R10 step 1, R14). -/
def Source.silenced (v : Source) : Source :=
  { v with rate := 0, intervals := [], pulseRef := none, band := false, silenceTimer := none,
           dowser := v.dowser && !autoSafe 0 v.n }

/-- The engine of the source's island takes the zero-rate sample of its O (R91). -/
def State.zeroSample (s : State) (x : Src) : State :=
  match (s.src x).island with
  | none => s
  | some i => if (s.current i).any (fun c => c.subject == x) then s.recompute i else s

/-- The STALL event: the motor goes off, then the fault logic takes it (R10 step 3, R25, R130). -/
def State.stall (s : State) (x : Src) : State :=
  (s.motorCut x).takeLockingFault x .stall .stall .urgent (s.src x).pos true

/-- The silence expiry of a source (R10). -/
def State.silence (s : State) (x : Src) : State :=
  let v := s.src x
  let s := ((s.modSrc x Source.silenced).testSource x).zeroSample x
  let s := if v.motor && v.reached then s.stall x else s
  s.settleOf x

/-- SILENCE_TIMEOUT (R10). A stopped timer does not expire. -/
def execSilenceTimeout (x : Src) (s : State) : Host.Outcome State Fault Refusal :=
  .next (match (s.src x).silenceTimer with
    | some t => (s.reachTick t).silence x
    | none => s)

/-! ### INCH_TIMEOUT -/

/-- The inch timer's expiry: the inch output goes off and INCH_TIMEOUT is raised (R20, R130). -/
def State.inchExpiry (s : State) (x : Src) : State :=
  ((s.inchOff x).raiseSource x .inchTimeout .warning).settleOf x

/-- INCH_TIMEOUT (R20). A stopped timer does not expire. -/
def execInchTimeout (x : Src) (s : State) : Host.Outcome State Fault Refusal :=
  .next (match (s.src x).inchTimer with
    | some t => (s.reachTick t).inchExpiry x
    | none => s)

/-! ### RUNUP_TIMEOUT -/

/-- The run-up timer's expiry (R107): the severity is noted before the motor goes off. -/
def State.runupExpiry (s : State) (x : Src) : State :=
  let sev : Severity := if s.isIncoming x then .urgent else .warning
  ((s.motorCut x).takeLockingFault x .runupTimeout .runupTimeout sev (s.src x).pos false).settleOf x

/-- RUNUP_TIMEOUT (R107). A stopped timer does not expire. -/
def execRunupTimeout (x : Src) (s : State) : Host.Outcome State Fault Refusal :=
  .next (match (s.src x).runupTimer with
    | some t => (s.reachTick t).runupExpiry x
    | none => s)

end Sys2Proof.Machine
end

