-- ==== Sys2Proof/Machine/Dispatch.lean ====
section
/-! DEFINITION. The effect of every command: one arm for each constructor of Instr. -/

namespace Sys2Proof.Machine

def exec (i : Instr) (s : State) : Host.Outcome State Fault Refusal :=
  match i with
  | .powerOn unitAddress primary => Sys2Proof.Machine.execPowerOn unitAddress primary s
  | .framePulse x forward elapsed => Sys2Proof.Machine.execFramePulse x forward elapsed s
  | .silenceTimeout x => Sys2Proof.Machine.execSilenceTimeout x s
  | .inchTimeout x => Sys2Proof.Machine.execInchTimeout x s
  | .runupTimeout x => Sys2Proof.Machine.execRunupTimeout x s
  | .filmSenseLost x => Sys2Proof.Machine.execFilmSenseLost x s
  | .filmSenseReturn x => Sys2Proof.Machine.execFilmSenseReturn x s
  | .lampSenseChange x lit => Sys2Proof.Machine.execLampSenseChange x lit s
  | .loopSenseChange x closed => Sys2Proof.Machine.execLoopSenseChange x closed s
  | .readyInputChange x ready => Sys2Proof.Machine.execReadyInputChange x ready s
  | .mirrorSenseChange island lines => Sys2Proof.Machine.execMirrorSenseChange island lines s
  | .mirrorAttemptTimeout island => Sys2Proof.Machine.execMirrorAttemptTimeout island s
  | .driftTimeout island => Sys2Proof.Machine.execDriftTimeout island s
  | .slotGrant => Sys2Proof.Machine.execSlotGrant s
  | .frameDiscarded p => Sys2Proof.Machine.execFrameDiscarded p s
  | .frameIgnored p => Sys2Proof.Machine.execFrameIgnored p s
  | .interByteTimeout p => Sys2Proof.Machine.execInterByteTimeout p s
  | .unknownCommand p code data => Sys2Proof.Machine.execUnknownCommand p code data s
  | .responseEnd p => Sys2Proof.Machine.execResponseEnd p s
  | .readPartStatus p data => Sys2Proof.Machine.execReadPartStatus p data s
  | .readSource p data => Sys2Proof.Machine.execReadSource p data s
  | .readIsland p data => Sys2Proof.Machine.execReadIsland p data s
  | .readCue p data => Sys2Proof.Machine.execReadCue p data s
  | .readCueSpec p data => Sys2Proof.Machine.execReadCueSpec p data s
  | .readRundown p data => Sys2Proof.Machine.execReadRundown p data s
  | .readMap p data => Sys2Proof.Machine.execReadMap p data s
  | .readAlarms p data => Sys2Proof.Machine.execReadAlarms p data s
  | .readNotices p data => Sys2Proof.Machine.execReadNotices p data s
  | .loadCue p data => Sys2Proof.Machine.execLoadCue p data s
  | .amendCue p data => Sys2Proof.Machine.execAmendCue p data s
  | .placeCue p data => Sys2Proof.Machine.execPlaceCue p data s
  | .withdrawCue p data => Sys2Proof.Machine.execWithdrawCue p data s
  | .retireCue p data => Sys2Proof.Machine.execRetireCue p data s
  | .clearRundown p data => Sys2Proof.Machine.execClearRundown p data s
  | .setSegment p data => Sys2Proof.Machine.execSetSegment p data s
  | .dropSegment p data => Sys2Proof.Machine.execDropSegment p data s
  | .clearMap p data => Sys2Proof.Machine.execClearMap p data s
  | .configureSource p data => Sys2Proof.Machine.execConfigureSource p data s
  | .zeroCounter p data => Sys2Proof.Machine.execZeroCounter p data s
  | .run p data => Sys2Proof.Machine.execRun p data s
  | .stop p data => Sys2Proof.Machine.execStop p data s
  | .inchTo p data => Sys2Proof.Machine.execInchTo p data s
  | .dowser p data => Sys2Proof.Machine.execDowser p data s
  | .hold p data => Sys2Proof.Machine.execHold p data s
  | .lockout p data => Sys2Proof.Machine.execLockout p data s
  | .clearLockout p source => Sys2Proof.Machine.execClearLockout p source s
  | .configureIsland p data => Sys2Proof.Machine.execConfigureIsland p data s
  | .fireNow p data => Sys2Proof.Machine.execFireNow p data s
  | .abortChangeover p data => Sys2Proof.Machine.execAbortChangeover p data s
  | .cutTo p data => Sys2Proof.Machine.execCutTo p data s
  | .islandReset p data => Sys2Proof.Machine.execIslandReset p data s
  | .acknowledgeAlarm p data => Sys2Proof.Machine.execAcknowledgeAlarm p data s
  | .acknowledgeAll p data => Sys2Proof.Machine.execAcknowledgeAll p data s
  | .silenceBell p data => Sys2Proof.Machine.execSilenceBell p data s
  | .giveControl p data => Sys2Proof.Machine.execGiveControl p data s
  | .takeControl p data => Sys2Proof.Machine.execTakeControl p data s
  | .seizeControl p data => Sys2Proof.Machine.execSeizeControl p data s
  | .noticeEnables p data => Sys2Proof.Machine.execNoticeEnables p data s
  | .partReset p data => Sys2Proof.Machine.execPartReset p data s
  | .byteReceived p byte => Sys2Proof.Machine.execByteReceived p byte s
  | .resetInputAsserted => Sys2Proof.Machine.execResetInputAsserted s

end Sys2Proof.Machine
end

