-- ==== Sys2Proof/Machine/Idle.lean ====
section
/-! DEFINITION. What the part does on an empty queue: the next grant it has decided, the next timer that has run out, or one
tick of the timebase (log entries 1 to 3). -/

namespace Sys2Proof.Machine

/-- A timer's tick of expiry has come. -/
def State.due (s : State) (timer : Option Nat) : Bool := timer.any (fun t => t ≤ s.now)

/-- The timers that may have run out, each with the command its expiry is. -/
def State.timers (s : State) : List (Option Nat × Instr) :=
  allSources.map (fun x => ((s.src x).silenceTimer, Instr.silenceTimeout x))
  ++ allSources.map (fun x => ((s.src x).inchTimer, Instr.inchTimeout x))
  ++ allSources.map (fun x => ((s.src x).runupTimer, Instr.runupTimeout x))
  ++ allIslands.map (fun i => ((s.eng i).attemptTimer, Instr.mirrorAttemptTimeout i))
  ++ allIslands.map (fun i => ((s.isl i).driftTimer, Instr.driftTimeout i))
  ++ [(s.desk.interByte, Instr.interByteTimeout .desk), (s.panel.interByte, Instr.interByteTimeout .panel)]

/-- The event of the part's own that comes next: a grant before a timer. -/
def State.ownEvent (s : State) : Option Instr :=
  if !s.arbiter.due.isEmpty && s.arbiter.free > 0 then some .slotGrant
  else (s.timers.find? (fun t => s.due t.1)).map (·.2)

/-- One tick of the timebase. -/
def State.tick (s : State) : State := { s with now := s.now + 1 }

end Sys2Proof.Machine
end

