-- ==== Sys2Proof/Machine/Step.lean ====
section
/-! DEFINITION. One step of the part: the command at the front of the queue, or the part's own next event, or a tick. -/

namespace Sys2Proof.Machine

/-- A step on an empty queue (log entry 1). -/
def idle (s : State) : Host.Outcome State Fault Refusal :=
  match s.ownEvent with
  | some c => exec c s
  | none => .next s.tick

/-- The command at the front of the queue is carried out on the state with the queue's rest (log entry 1). -/
def step (s : State) : Host.Outcome State Fault Refusal :=
  match s.pending with
  | c :: rest => exec c { s with pending := rest }
  | [] => idle s

/-- The state with the command that a table word spells put at the front of its queue. No row of the table has bits, so no
word spells one. -/
def State.withFetchWord (s : State) (nbits w : Nat) : State :=
  match decodeTableWord nbits w with
  | some c => { s with pending := c :: s.pending }
  | none => s

end Sys2Proof.Machine
end

