-- ==== Sys2Proof/Safety.lean ====
section
/-! DEFINITION. What claims are stated in: a step that goes on, the answer of a command, and what the head evaluations, the
engines and the fault logic leave as it was. -/

namespace Sys2Proof.Machine

/-! ### Going on -/

/-- An outcome is a next state with a property. -/
def Answers (o : Host.Outcome State Fault Refusal) (P : State → Prop) : Prop := ∃ t, o = .next t ∧ P t

/-- A step goes on: neither a fault nor a refusal. Nothing in the spec stops the part (INVENTORY.md, Faults). -/
def Safe (s : State) : Prop := Answers (step s) (fun _ => True)

/-- A frame was answered with a status and data at a port, which stands in ANSWER (R160, R163). -/
def Replied (t : State) (p : Link) (code : Byte) (st : Status) (data : List Byte) : Prop :=
  (t.port p).recv = .answer ∧ (t.port p).response = responseFrame t.unitAddress code st data

/-! ### What is left as it was -/

/-- A source record without what the engines and the head evaluation may change: the motor and what follows it, the dowser,
the conditions present. -/
def Source.kept (v : Source) : Source :=
  { v with motor := false, band := false, reached := false, dowser := false, tailStop := none, runupTimer := none,
           conds := Conds.clear }

/-- A source record without what the fault logic may change besides: the lockout and the inching. -/
def Source.keptByFaults (v : Source) : Source :=
  { v.kept with lockout := none, inch := false, inchTarget := none, inchTimer := none }

/-- A cue record without what its states and its outcome change: what was loaded, what it resolved to, MAP_CHANGED. -/
def CueRec.kept (c : CueRec) : CueRec :=
  { c with state := .waiting, startPoint := none, slotRequested := false, blocked := none, fireO := none, fireI := none,
           fireErr := none, shortLeader := false, lateStart := false, notAtSpeed := false, heldForPicture := false,
           missCause := none, metGrant := none }

/-- An island record without its drift timer and the LIVE_NONE condition. -/
def Island.kept (v : Island) : Island := { v with driftTimer := none, liveNone := false }

/-- A port without its notices. -/
def Port.kept (q : Port) : Port := { q with notices := [], overflow := false }

/-- Two states agree on all but the arbiter, the engines, the rundowns, the alarms, the notices, and the parts of the records
that `g` and the definitions above leave out. No record enters the cue table. -/
structure KeptBy (g : Source → Source) (s t : State) : Prop where
  maps : t.maps = s.maps
  sources : ∀ x, g (t.src x) = g (s.src x)
  islands : ∀ i, (t.isl i).kept = (s.isl i).kept
  ports : ∀ p, (t.port p).kept = (s.port p).kept
  cues : List.Sublist (t.cues.map CueRec.kept) (s.cues.map CueRec.kept)
  unitAddress : t.unitAddress = s.unitAddress
  primaryLink : t.primaryLink = s.primaryLink
  strapAddress : t.strapAddress = s.strapAddress
  strapPrimary : t.strapPrimary = s.strapPrimary
  resetAsserted : t.resetAsserted = s.resetAsserted
  now : t.now = s.now
  pending : t.pending = s.pending

/-- What the engines and the head evaluations leave as it was. -/
abbrev Kept : State → State → Prop := KeptBy Source.kept

/-- What the fault logic leaves as it was besides. -/
abbrev KeptByFaults : State → State → Prop := KeptBy Source.keptByFaults

/-- Two states agree on all but the entries of the two notice sets and their overflow flags. -/
def ButNotices (s t : State) : Prop :=
  (∀ p, (t.port p).kept = (s.port p).kept) ∧ { t with desk := s.desk, panel := s.panel } = s

/-- What a source's outputs may do where nothing asks for them: the motor, the inch and the band flag go off and not on, a
motor that stays on keeps its band and reached flags, a tail stop and an inch target may go and not come, and no dowser comes to
stand open where R14 bars it. -/
structure Source.FallsTo (v w : Source) : Prop where
  motor : w.motor = true → v.motor = true ∧ w.band = v.band ∧ w.reached = v.reached
  band : w.band = true → v.band = true
  tailStop : w.tailStop = none ∨ w.tailStop = v.tailStop
  inch : w.inch = true → v.inch = true
  inchTarget : w.inchTarget = none ∨ w.inchTarget = v.inchTarget
  inchTimer : w.inchTimer = none ∨ w.inchTimer = v.inchTimer
  barred : v.openBarred = true → w.openBarred = true
  dowser : w.dowser = true → w.openBarred = true → v.dowser = true ∧ v.openBarred = true

/-- What the head evaluations, the engines' watch and the fault logic may do to the outputs of the sources. -/
def Falls (s t : State) : Prop := ∀ x, (s.src x).FallsTo (t.src x)

/-- What a head evaluation and the engine's watch leave of a state they follow. -/
def Follows (s t : State) : Prop := Kept s t ∧ Falls s t

/-- What the fault logic, with the evaluations it hands on to, leaves of a state it follows. -/
def FaultsFollow (s t : State) : Prop := KeptByFaults s t ∧ Falls s t

/-- The state that differs by a response alone: the port stands in ANSWER and sends it (R160, R163). -/
def State.answered (s : State) (p : Link) (code : Byte) (st : Status) (data : List Byte) : State :=
  (s.enterAnswer p).respond p code st data

/-- The data byte that names a source, an island or an input position (R171). -/
def numByte {n : Nat} (x : Fin n) : Byte := byteOf (numOf x)

/-- The rundown of an island is empty and its engine has no current cue, so that nothing there can arm or fire. -/
def State.quiet (s : State) (i : Isl) : Prop := s.rundown i = [] ∧ (s.eng i).cue = none

/-- The state after a command, where the command goes on. -/
def State.after (s : State) (c : Instr) : State :=
  match exec c s with
  | .next t => t
  | .fault _ => s
  | .refused _ => s

/-- The state after bytes arrive at a port one after another. -/
def State.afterBytes (s : State) (p : Link) (bytes : List Byte) : State :=
  bytes.foldl (fun s b => s.after (.byteReceived p b)) s

/-- A command on a source, sent at a port, gets past the checks every such command meets: the port takes the frame, the source
is configured, and the link controls its island (R152, section 1.6). -/
def State.commands (s : State) (p : Link) (x : Src) : Prop :=
  s.takes p = true ∧ (s.src x).configured = true ∧ s.controlsOf p x = true

/-- A command on an island gets past its checks: the port takes the frame and the link controls the island (R152). -/
def State.commandsIsland (s : State) (p : Link) (i : Isl) : Prop := s.takes p = true ∧ s.controls p i = true

/-- A record can be named by a command: it is the one a number from 1 to 999 finds, and the link controls its island. -/
def State.commandsCue (s : State) (p : Link) (c : CueRec) : Prop :=
  s.takes p = true ∧ s.controls p c.island = true ∧ s.cue c.id = some c ∧ 1 ≤ c.id ∧ c.id ≤ 999

/-- The island a source is configured to, where there is one, is quiet. -/
def State.quietAt (s : State) (x : Src) : Prop := ∀ i, (s.src x).island = some i → s.quiet i

/-- There is room in the alarm table for any alarms of one event. -/
def State.alarmRoom (s : State) : Prop := s.alarms.records.length ≤ 12

/-! ### Flights -/

/-- The state of the current cue that goes with an engine's state (R112). -/
def EngState.cueState : EngState → Option CueState
  | .armed => some .armed
  | .rolling => some .rolling
  | .ready => some .ready
  | .switching => some .firing
  | .idle | .returning => none

/-- The engine of an island carries a CHANGEOVER toward its I: the cue is the engine's current one and the head of its rundown,
in the state that goes with the engine's, its O is live until the mirror moves, its I lies in the island, and no two records
share an id (R43, R80, R112). -/
structure State.Carries (s : State) (i : Isl) (c : CueRec) (x : Src) (k : EngState) : Prop where
  engine : (s.eng i).state = k
  state : k.cueState = some c.state
  current : s.current i = some c
  head : s.head i = some c
  island : c.island = i
  kind : c.kind = .changeover
  partner : c.partner = some x
  apart : c.subject ≠ x
  live : k ≠ .switching → s.live i = some c.subject
  partnerAt : (s.src x).island = some i
  unique : (s.cues.map (·.id)).Nodup

/-- A film source runs, laced and lit, with nothing set that would stop it at a pulse. -/
structure Source.Rolls (v : Source) : Prop where
  isFilm : v.isFilm = true
  film : v.film = true
  lamp : v.lamp = true
  motor : v.motor = true
  inch : v.inch = false
  tailStop : v.tailStop = none
  lockout : v.lockout = none

/-- A CHANGEOVER has fired toward its I at an input position (R118): the engine is in a CUE switch at attempt 1, the record is
FIRING with its fire positions, its fire error and the flags of its firing, and the dowser of I is open where R14 lets it. -/
def Fired (s t : State) (i : Isl) (c : CueRec) (x : Src) (k : InPos) (notAtSpeed held : Bool) : Prop :=
  t.eng i = { s.eng i with state := .switching, switchKind := some .cue, takePending := false, holdPicture := false,
                           triggerReached := false, returnPos := (s.src c.subject).inputPos, drive := some k,
                           attempts := some 1, attemptTimer := some (t.now + 6000) }
  ∧ (∃ r, t.cue c.id = some r ∧ r.kept = c.kept ∧ r.state = .firing ∧ r.slotRequested = false
      ∧ r.fireO = (t.src c.subject).pos ∧ r.fireI = (if (t.src x).isFilm then (t.src x).pos else none)
      ∧ r.fireErr = t.fireErrOf c x ∧ r.notAtSpeed = (c.notAtSpeed || notAtSpeed)
      ∧ r.heldForPicture = (c.heldForPicture || held))
  ∧ ((t.src x).openBarred = false → (t.src x).dowser = true)

/-- A record has ended MISSED with a cause: it is out of the rundown of its island, and keeps what it was loaded with, what it
resolved to and the fire positions it had (R51, R52, R54). -/
def EndsMissed (t : State) (i : Isl) (c : CueRec) (cause : MissCause) : Prop :=
  c.id ∉ t.rundown i ∧ ∃ r, t.cue c.id = some r ∧ r.kept = c.kept ∧ r.state = .missed ∧ r.missCause = some cause
    ∧ r.fireO = c.fireO ∧ r.fireI = c.fireI ∧ r.fireErr = c.fireErr

/-- The record at the head of a rundown is not ended by a judgement of its island: a WAITING one has not passed (R82), an ARMED
one has not passed or holds its arming conditions (R81), and one in ROLLING or READY has lost no party (R126, R127). -/
def State.headStands (s : State) (i : Isl) (h : CueRec) : Prop :=
  match h.state with
  | .waiting => s.passed h = false
  | .armed => s.passed h = false ∨ s.blockOf i h true = none
  | .rolling | .ready => ∀ x, h.partner = some x → (s.src x).lostIncoming = false ∧ s.lostOutgoing i h = false
  | .firing | .done | .missed => True

/-! ### Conditions -/

/-- The test of a condition, as R25 and R8 state it. -/
def Source.Suffers (v : Source) (live : Bool) : Cond → Prop
  | .lampFail => v.isFilm = true ∧ v.lamp = false ∧ (v.motor = true ∨ live = true)
  | .loopLoss => v.isFilm = true ∧ v.loop = false ∧ v.motor = true
  | .overspeed => v.isFilm = true ∧ v.n + v.n / 10 < v.rate
  | .underspeed => v.isFilm = true ∧ live = true ∧ v.reached = true ∧ v.rate < v.n - v.n / 25
  | .countRange => v.isFilm = true ∧ (v.pos = some (-8192) ∨ v.pos = some 131071)

/-- After an event that may have changed what the conditions of a source name, each is present exactly while its test holds. One
that began is raised, LAMP_FAIL as URGENT at the live source; the record of one that ended is CLEARED, or retired where it was
STANDING (R25, R130, R138). -/
def CondsFollow (s t : State) (x : Src) : Prop :=
  ∀ k : Cond,
    ((t.src x).conds.get k = true ↔ (t.src x).Suffers (t.isLive x) k)
    ∧ ((s.src x).conds.get k = false → (t.src x).conds.get k = true → s.alarmRoom →
      ∃ r, t.alarm (.source x) k.cause = some r ∧ r.state = .raised ∧ (s.alarm (.source x) k.cause = none →
        r.count = 1 ∧ r.captured = (t.src x).pos
        ∧ r.severity = (if k = .lampFail ∧ t.isLive x = true then .urgent else .warning)))
    ∧ ((s.src x).conds.get k = true → (t.src x).conds.get k = false → ∀ r, s.alarm (.source x) k.cause = some r →
      (r.state = .raised → t.alarm (.source x) k.cause = some { r with state := .cleared })
      ∧ (r.state = .standing → t.alarm (.source x) k.cause = none))

/-! ### Re-resolution -/

/-- The records after a change of the reel map of a source (R35, R38 to R40). A record with a story spec on it is resolved afresh
on the maps as they are: a WAITING or ARMED one takes a fresh outcome, one in flight keeps its figures and sets MAP_CHANGED, and
every other record keeps what it holds. With a fresh outcome a MARK is under watch exactly when it is resolved and its subject's
counter is valid, and a CHANGEOVER or STOP that is not resolved stands WAITING, and where it is the head it is blocked UNRESOLVED,
or ENGINE_BUSY while its engine moves the mirror (R85, notes/assumptions/37.md). -/
def Reresolved (s t : State) (x : Src) : Prop :=
  ∀ c, s.cue c.id = some c →
    let fresh := t.resolution c
    let differs := c.storyOn x = true ∧ c.held ≠ fresh
    ∃ r, t.cue c.id = some r
      ∧ (¬differs ∨ c.state.ended = true → r.kept = c.kept)
      ∧ (differs → c.state = .waiting ∨ c.state = .armed → r.kept = (c.store fresh).kept
        ∧ (c.kind = .mark → r.state = if fresh.reason = none ∧ (t.src c.subject).pos.isSome = true then .armed else .waiting)
        ∧ (c.kind ≠ .mark → fresh.reason.isSome = true → r.state = .waiting
          ∧ (c.state = .armed → r.startPoint = none ∧ r.slotRequested = false)
          ∧ (c.kind = .changeover ∨ c.mode = .position → s.head c.island = some c →
            ((s.eng c.island).moving = false → r.blocked = some .unresolved)
            ∧ ((s.eng c.island).moving = true → r.blocked = some .engineBusy))))
      ∧ (differs → c.state.inFlight = true → r.kept = { c with mapChanged := true }.kept)

/-- The head evaluation of a WAITING record at the head of its rundown, judged on `s`, as `t` shows it (R76, R80, R82): it ends
MISSED PASSED, or takes the reason that blocks it, or arms with the engine, a POSITION-mode CHANGEOVER with a film I with its start
point computed (R87, R113). -/
def HeadJudged (s t : State) (c : CueRec) : Prop :=
  let i := c.island
  (s.passed c = true → c.id ∉ t.rundown i
    ∧ ∃ r, t.cue c.id = some r ∧ r.kept = c.kept ∧ r.state = .missed ∧ r.missCause = some .passed)
  ∧ (s.passed c = false →
    (∀ why, s.blockWaiting i c = some why → t.cue c.id = some { c with blocked := some why } ∧ t.eng i = s.eng i)
    ∧ (s.blockWaiting i c = none → (t.eng i).cue = some c.id
      ∧ ∃ r, t.cue c.id = some r ∧ r.kept = c.kept ∧ r.blocked = none
        ∧ ((r.state = .armed ∧ (t.eng i).state = .armed)
          ∨ (r.state = .ready ∧ (t.eng i).state = .ready ∧ c.kind = .changeover))
        ∧ ∀ x target q p, c.kind = .changeover → c.mode = .position → c.partner = some x → (s.src x).isFilm = true →
          c.resT = some target → c.resQ = some q → (s.src x).pos = some p →
          r.startPoint = some (prerollOf target q p (s.src c.subject) (s.src x) (s.isl i).margin).start))

/-! ### What the images show (R171, R173) -/

/-- The name a code stands for in a table whose names are coded from 1; 0 names none (R171). -/
def named {α : Type} (names : List α) (n : Nat) : Option α := if n = 0 then none else names[n - 1]?

/-- A position of an image, on a gauge (R29). -/
def showsPos (img : List Byte) (k : Nat) (form : Form) (fpf : Option Nat) (p : Option Int) : Prop :=
  (img.drop k).take 3 = posBytes form fpf p

/-- The reason code of a cue image, read by state (R173). -/
def CueRec.ShowsReason (c : CueRec) (n : Nat) : Prop :=
  (c.state = .missed → named [MissCause.passed, .late, .notReady, .aborted, .emergency, .mirror, .outgoingLost, .incomingLost] n
      = c.missCause)
  ∧ (c.state ≠ .missed →
    (c.blocked = none → named [UnresReason.noMap, .noTag, .outOfStory] n = c.unresolved)
    ∧ (c.blocked = some .unresolved → ∀ u, c.unresolved = some u →
      3 < n ∧ named [UnresReason.noMap, .noTag, .outOfStory] (n - 3) = some u)
    ∧ ∀ b, c.blocked = some b → b ≠ .unresolved → named [BlockReason.outgoingNotLive, .outgoingNotRunning, .incomingNotReady,
        .incomingHeld, .incomingLockedOut, .incomingPastStart, .leaderTooLong, .engineBusy] (n - 6) = some b)

/-- The cue image of a record whose id lies in its range, field by field (R62, R173). -/
def State.CueImageShows (s : State) (form : Form) (c : CueRec) (img : List Byte) : Prop :=
  let w := wordAt img 0
  let flags := byteAt img 4
  let onO := s.subjectGauge c
  let onI := s.partnerGauge c
  img.length = 28 ∧ w % 1024 = c.id ∧ named [CueKind.changeover, .stop, .mark] (w / 1024 % 4) = some c.kind
  ∧ w / 4096 % 4 = c.island.val ∧ w / 16384 = (if c.mode = .take then 1 else 0)
  ∧ named [CueState.waiting, .armed, .rolling, .ready, .firing, .done, .missed] (natAt img 2 / 16) = some c.state
  ∧ c.ShowsReason (natAt img 2 % 16)
  ∧ natAt img 3 / 16 = numOf c.subject ∧ natAt img 3 % 16 = numOpt c.partner
  ∧ flags.getLsbD 0 = s.placed c ∧ flags.getLsbD 1 = c.slotRequested ∧ flags.getLsbD 2 = c.shortLeader
  ∧ flags.getLsbD 3 = c.lateStart ∧ flags.getLsbD 4 = c.notAtSpeed ∧ flags.getLsbD 5 = c.heldForPicture
  ∧ flags.getLsbD 6 = c.mapChanged
  ∧ showsPos img 5 form onO c.resT ∧ showsPos img 8 form onI c.resQ ∧ showsPos img 11 form onO c.startPoint
  ∧ showsPos img 14 form onO (if c.state.ended = true then c.fireO else none) ∧ showsPos img 17 form onI c.fireI
  ∧ byteAt img 20 ++ byteAt img 21 = BitVec.ofInt 16 (c.fireErr.getD 0)
  ∧ showsPos img 22 form onO (s.src c.subject).pos
  ∧ showsPos img 25 form onI (c.partner.bind (fun x => (s.src x).pos))

/-- The cue spec image (R63, R173). -/
def State.CueSpecImageShows (s : State) (form : Form) (c : CueRec) (img : List Byte) : Prop :=
  img.length = 16 ∧ wordAt img 0 = c.id % 65536
  ∧ (img.drop 2).take 5 = specBytes form (s.subjectGauge c) c.trigger
  ∧ (img.drop 7).take 5 = specBytes form (s.partnerGauge c) c.picture
  ∧ (-48 ≤ c.trim → c.trim ≤ 48 → signedAt img 12 = c.trim)
  ∧ named [LatePolicy.fireAtMark, .holdForPicture, .abandon] (natAt img 13) = c.policy
  ∧ natAt img 14 = c.slipLimit.getD 0 % 256 ∧ natAt img 15 = (if c.keep = true then 1 else 0)

/-- The source image, field by field (R165, R173). -/
def State.SourceImageShows (s : State) (form : Form) (x : Src) (img : List Byte) : Prop :=
  let v := s.src x
  let flags := byteAt img 18
  let sense := byteAt img 19
  let fpf := v.stype.fpf
  img.length = 29 ∧ natAt img 0 = numOf x ∧ named [SourceType.unused, .film35, .film16, .still] (natAt img 1) = some v.stype
  ∧ natAt img 2 = numOpt v.island ∧ natAt img 3 = numOpt v.inputPos
  ∧ wordAt img 4 = v.n % 65536 ∧ wordAt img 6 = v.runUp % 65536 ∧ wordAt img 8 = v.travel % 65536
  ∧ wordAt img 10 = v.tail % 65536
  ∧ named [SourceState.unloaded, .inching, .atSpeed, .running, .stopping, .parked, .threaded, .unused, .stillReady]
      (natAt img 12) = some v.state
  ∧ showsPos img 13 form fpf v.pos ∧ wordAt img 16 = v.rate % 65536
  ∧ flags.getLsbD 0 = v.band ∧ flags.getLsbD 1 = v.reached ∧ flags.getLsbD 2 = v.motor ∧ flags.getLsbD 3 = v.inch
  ∧ flags.getLsbD 4 = v.dowser ∧ flags.getLsbD 5 = v.hold ∧ flags.getLsbD 6 = s.slotHeld x
  ∧ flags.getLsbD 7 = (s.arbiter.waiting x).isSome
  ∧ sense.getLsbD 0 = v.film ∧ sense.getLsbD 1 = v.loop ∧ sense.getLsbD 2 = v.lamp ∧ sense.getLsbD 3 = v.ready
  ∧ sense.getLsbD 4 = v.dirForward
  ∧ named [LockCause.manual, .filmBreak, .lampFail, .stall, .runupTimeout] (natAt img 20) = v.lockout
  ∧ natAt img 21 = (match (s.arbiter.waiting x).map (·.origin) with
      | none => 0
      | some .run => 1
      | some (.engine i) => 0x11 + i.val)
  ∧ showsPos img 22 form fpf v.tailStop ∧ showsPos img 25 form fpf v.inchTarget ∧ natAt img 28 = (s.map x).length % 256

/-- The island image, field by field (R108, R173). -/
def State.IslandImageShows (s : State) (i : Isl) (img : List Byte) : Prop :=
  let v := s.isl i
  let e := s.eng i
  img.length = 15 ∧ natAt img 0 = numOf i ∧ natAt img 1 = numOpt v.sensed ∧ natAt img 2 = numOpt (s.live i)
  ∧ natAt img 3 = numOpt v.protect
  ∧ (byteAt img 4).getLsbD 0 = v.emergEnable ∧ (byteAt img 4).getLsbD 1 = v.driftTimer.isSome
  ∧ (byteAt img 4).getLsbD 2 = (v.control == .panel) ∧ wordAt img 5 = v.margin % 65536
  ∧ named [EngState.idle, .armed, .rolling, .ready, .switching, .returning] (natAt img 7) = some e.state
  ∧ wordAt img 8 = e.cue.getD 0 % 65536 ∧ named [SwitchKind.cue, .cut, .emergency] (natAt img 10) = e.switchKind
  ∧ natAt img 11 = e.attempts.getD 0 % 256
  ∧ (byteAt img 12).getLsbD 0 = e.takePending ∧ (byteAt img 12).getLsbD 1 = e.holdPicture
  ∧ (byteAt img 12).getLsbD 2 = e.triggerReached ∧ natAt img 13 = numOpt e.returnPos ∧ natAt img 14 = numOpt e.drive

/-- The part status image read at a port, field by field (R164, R173). -/
def State.StatusImageShows (s : State) (p : Link) (img : List Byte) : Prop :=
  let q := s.port p
  let flags := byteAt img 1
  img.length = 16 ∧ natAt img 0 = s.unitAddress.toNat
  ∧ flags.getLsbD 0 = (s.primaryLink == .panel) ∧ flags.getLsbD 1 = q.restart ∧ flags.getLsbD 2 = s.alarms.overflow
  ∧ flags.getLsbD 3 = s.alarms.silence ∧ flags.getLsbD 4 = q.overflow
  ∧ (∀ i : Isl, (byteAt img 2).getLsbD i.val = ((s.isl i).control == .panel)
    ∧ named [EngState.idle, .armed, .rolling, .ready, .switching, .returning] (natAt img (3 + i.val)) = some (s.eng i).state)
  ∧ natAt img 7 = numOpt s.arbiter.slot1 ∧ natAt img 8 = numOpt s.arbiter.slot2
  ∧ (∀ x : Src, (byteAt img 9).getLsbD x.val = (s.arbiter.waiting x).isSome
    ∧ (byteAt img 10).getLsbD x.val = (s.arbiter.waiting x).any (fun r => r.origin == .run))
  ∧ natAt img 11 = s.cues.length % 256 ∧ natAt img 12 = s.alarms.records.length % 256
  ∧ (byteAt img 13).getLsbD 0 = s.alarms.bell ∧ named [Lamp.off, .steady, .flashing] (natAt img 13 / 2 + 1) = some s.alarms.lamp
  ∧ natAt img 14 = q.notices.length % 256
  ∧ (byteAt img 15).getLsbD 0 = q.enCue ∧ (byteAt img 15).getLsbD 1 = q.enSource ∧ (byteAt img 15).getLsbD 2 = q.enIsland
  ∧ (byteAt img 15).getLsbD 3 = q.enAlarm

/-! ### Invariants -/

/-- The outputs are safe. Under lockout every output is off or closed and no start is asked for (R15). A dowser is open at a
configured source alone, and not at a dark film source (R14). A motor, an inch output or a start request is a film source's (R5).
A source that holds a start slot has its motor on and has not reached speed (R12, R104). -/
def OutputsSafe (s : State) : Prop :=
  ∀ x, ((s.src x).lockout.isSome = true → (s.src x).motor = false ∧ (s.src x).inch = false ∧ (s.src x).dowser = false
      ∧ s.arbiter.asked x = false)
    ∧ ((s.src x).dowser = true → (s.src x).filmDark = false ∧ (s.src x).configured = true)
    ∧ ((s.src x).motor = true ∨ (s.src x).inch = true ∨ s.arbiter.asked x = true → (s.src x).isFilm = true)
    ∧ (s.slotHeld x = true → (s.src x).motor = true ∧ (s.src x).reached = false)

/-- An engine's fields fit its state (R112): IDLE has none of them; a drive, its attempts, a switch kind, a return position and
an origin belong to a move alone; the flags of a flight are clear in a move; ARMED, ROLLING and READY have a current cue. -/
def EngineFieldsFit (s : State) : Prop :=
  ∀ i, ((s.eng i).state = .idle → s.eng i = Engine.idle)
    ∧ ((s.eng i).moving = false → (s.eng i).drive = none ∧ (s.eng i).attempts = none ∧ (s.eng i).attemptTimer = none
      ∧ (s.eng i).switchKind = none ∧ (s.eng i).returnPos = none ∧ (s.eng i).origin = none)
    ∧ ((s.eng i).moving = true → (s.eng i).takePending = false ∧ (s.eng i).holdPicture = false
      ∧ (s.eng i).triggerReached = false)
    ∧ ((s.eng i).carrying = true → (s.eng i).cue.isSome = true)

/-- A port's notice set: at most 32 entries, no two alike (R166). -/
def Port.noticesFit (q : Port) : Prop := q.notices.length ≤ 32 ∧ q.notices.Nodup

/-- The bounded stores and ranges: positions, rates and intervals (R1, R8), cue ids (R42, R43), rundowns (R68), the alarm table
(R136), where an event record is RAISED (R139), notice sets (R166), one start request for a source (R101). -/
structure TablesFit (s : State) : Prop where
  positions : ∀ x p, (s.src x).pos = some p → -8192 ≤ p ∧ p ≤ 131071
  rates : ∀ x, (s.src x).rate ≤ 6000 ∧ (s.src x).intervals.length ≤ 8
  cues : s.cues.length ≤ 128 ∧ (s.cues.map (·.id)).Nodup ∧ ∀ c ∈ s.cues, 1 ≤ c.id ∧ c.id ≤ 999
  rundowns : ∀ i, (s.rundown i).length ≤ 32
  alarms : s.alarms.records.length ≤ 24 ∧ (s.alarms.records.map (fun r => (r.object, r.cause))).Nodup
    ∧ ∀ r ∈ s.alarms.records, 1 ≤ r.count ∧ r.count ≤ 99 ∧ r.object.admits r.cause = true
      ∧ (r.cause.isCondition = false → r.state = .raised)
  notices : s.desk.noticesFit ∧ s.panel.noticesFit
  requests : ((s.arbiter.waits ++ s.arbiter.due).map (·.source)).Nodup

/-- Every entry of a rundown is the id of a CHANGEOVER or STOP record of its island that has not ended, and stands there once
(R42, R68, R74). No two records share an id (R43). -/
def RundownsFit (s : State) : Prop :=
  (s.cues.map (·.id)).Nodup ∧ ∀ i, (s.rundown i).Nodup ∧
    ∀ id ∈ s.rundown i, ∃ c ∈ s.cues, c.id = id ∧ c.island = i ∧ c.kind ≠ .mark ∧ c.state.ended = false

/-- The current cues fit the engines (R80, R112): a current cue is a CHANGEOVER or STOP record of its island, the head of its
rundown, in the state that goes with the engine's, and in a move its switch is a CUE switch; a move has a switch kind; and every
CHANGEOVER or STOP from ARMED to FIRING is the current cue of its island's engine. -/
def CuesFitEngines (s : State) : Prop :=
  (∀ i id, (s.eng i).cue = some id → ∃ c, s.cue id = some c ∧ c.island = i ∧ c.kind ≠ .mark ∧ s.head i = some c
      ∧ (s.eng i).state.cueState = some c.state ∧ ((s.eng i).state = .switching → (s.eng i).switchKind = some .cue))
  ∧ (∀ i, (s.eng i).moving = true → (s.eng i).switchKind.isSome = true)
  ∧ ∀ c ∈ s.cues, c.kind ≠ .mark → c.state = .armed ∨ c.state.inFlight = true → (s.eng c.island).cue = some c.id

/-- No request waits while a slot is free (R101). A slot for which a grant is decided is not free (notes/assumptions/3.md). -/
def NoWaitWhileFree (s : State) : Prop := s.arbiter.spare = true → s.arbiter.waits = []

/-- No two configured sources share an island and an input position (R2). -/
def InputsApart (s : State) : Prop := ∀ x y i k, (s.src x).faces i k = true → (s.src y).faces i k = true → x = y

/-- A reel map ascends by first frame, no frame lies in two of its segments, no two carry one tag, each lies in the counter's
range, and there are at most 12 (R30, R31). -/
structure MapFits (m : List Segment) : Prop where
  length : m.length ≤ 12
  ascends : m.Pairwise (fun g h => g.first + g.length ≤ h.first)
  tags : m.Pairwise (fun g h => g.tag ≠ h.tag)
  values : ∀ g ∈ m, 1 ≤ g.tag ∧ g.tag ≤ 4095 ∧ 1 ≤ g.length ∧ g.first + g.length ≤ 131071

/-- Every reel map fits, and a source that is not a film source holds an empty one (R30). -/
def MapsFit (s : State) : Prop := ∀ x, MapFits (s.map x) ∧ ((s.src x).isFilm = false → s.map x = [])

end Sys2Proof.Machine
end

