-- ==== Sys2Proof/WellFormed.lean ====
section
/-! DEFINITION. Which terms of Instr are commands the table's rows stand for. A frame's count is one byte (R162), so no frame
carries more than 255 data bytes. -/

namespace Sys2Proof

/-- The codes of the command set (section 10.4). -/
def commandCodes : List Byte :=
  [0x01, 0x02, 0x03, 0x04, 0x05, 0x06, 0x07, 0x08, 0x09,
   0x10, 0x11, 0x12, 0x13, 0x14, 0x15,
   0x20, 0x21, 0x22,
   0x30, 0x31, 0x32, 0x33, 0x34, 0x35, 0x36, 0x37,
   0x40, 0x41, 0x42, 0x43, 0x44,
   0x50, 0x51, 0x52,
   0x60, 0x61, 0x62,
   0x70, 0x7F]

/-- The data bytes a command's frame carries, for the rows that stand for a frame taken. -/
def Instr.frameData : Instr → Option (List Byte)
  | .powerOn .. | .framePulse .. | .silenceTimeout .. | .inchTimeout .. | .runupTimeout .. | .filmSenseLost ..
  | .filmSenseReturn .. | .lampSenseChange .. | .loopSenseChange .. | .readyInputChange .. | .mirrorSenseChange ..
  | .mirrorAttemptTimeout .. | .driftTimeout .. | .slotGrant | .frameDiscarded .. | .frameIgnored ..
  | .interByteTimeout .. | .responseEnd .. | .byteReceived .. | .resetInputAsserted => none
  | .clearLockout _ source => some [source, 2]
  | .unknownCommand _ _ data => some data
  | .readPartStatus _ data | .readSource _ data | .readIsland _ data | .readCue _ data | .readCueSpec _ data
  | .readRundown _ data | .readMap _ data | .readAlarms _ data | .readNotices _ data | .loadCue _ data
  | .amendCue _ data | .placeCue _ data | .withdrawCue _ data | .retireCue _ data | .clearRundown _ data
  | .setSegment _ data | .dropSegment _ data | .clearMap _ data | .configureSource _ data | .zeroCounter _ data
  | .run _ data | .stop _ data | .inchTo _ data | .dowser _ data | .hold _ data | .lockout _ data
  | .configureIsland _ data | .fireNow _ data | .abortChangeover _ data | .cutTo _ data | .islandReset _ data
  | .acknowledgeAlarm _ data | .acknowledgeAll _ data | .silenceBell _ data | .giveControl _ data
  | .takeControl _ data | .seizeControl _ data | .noticeEnables _ data | .partReset _ data => some data

/-- A frame's data fit its count byte (R162). -/
def Instr.countFits (c : Instr) : Bool := c.frameData.all (·.length ≤ 255)

/-- An UNKNOWN_COMMAND row's code names no command (R162). -/
def Instr.codeUnknown : Instr → Bool
  | .unknownCommand _ code _ => !commandCodes.contains code
  | _ => true

/-- A LOCKOUT row's action is not CLEAR: that frame is the CLEAR_LOCKOUT row's (R22, R135). -/
def Instr.actionFits : Instr → Bool
  | .lockout _ data => data[1]? != some 2
  | _ => true

/-- The commands that the rows of the table stand for. -/
def Instr.wf (c : Instr) : Bool := c.countFits && c.codeUnknown && c.actionFits

end Sys2Proof
end

