-- ==== Sys2Proof/Certificates/Slice0/Obligations.lean ====
section
/-! DEFINITION. The statements for the provers: what the rules of spec/ say the commands and the part do. `Follows` and
`FaultsFollow` (Safety.lean) are the frames: what the head evaluations, the engines and the fault logic leave as it was. -/

open Sys2Proof Sys2Proof.Machine

/-! ### The part as a whole -/

/-- One step carries out the command at the front of the queue on the state with the queue's rest. The queue is the model's own
(log entry 1). -/
def Obligations.StepRunsFrontCommand : Prop :=
  ∀ (s : State) (c : Instr) (rest : List Instr), s.pending = c :: rest → step s = exec c { s with pending := rest }

/-- On an empty queue a step takes the arbiter's next grant, else a timer that has run out, else it moves the timebase by one
tick. The model's choice (log entry 1). -/
def Obligations.IdleStepTakesGrantTimerOrTick : Prop :=
  ∀ s : State, s.pending = [] →
    (s.arbiter.due ≠ [] ∧ 0 < s.arbiter.free → step s = exec .slotGrant s) ∧
    (¬(s.arbiter.due ≠ [] ∧ 0 < s.arbiter.free) →
      ((∀ e ∈ s.timers, s.due e.1 = false) → step s = .next { s with now := s.now + 1 }) ∧
      (∀ e ∈ s.timers, s.due e.1 = true → ∃ f ∈ s.timers, s.due f.1 = true ∧ step s = exec f.2 s))

/-- No command stops the part: every command, in every state, answers a next state. The model's own deduction (log entry 31):
the spec says that a command of the links cannot stop the part (section 10.3) and names nothing that a line or a timer could stop,
so Fault has no constructor. -/
def Obligations.EveryCommandGoesOn : Prop := ∀ (c : Instr) (s : State), ∃ t, exec c s = .next t

/-- The power-on columns of R1, R101, R108, R112, R136 and R158 at State.reset. The pins, the straps and the timebase are the
model's choice (log entries 5 and 19) and are not spoken of. -/
def Obligations.ResetLeavesPowerOnValues : Prop :=
  let s := State.reset
  (∀ x, let v := s.src x
    v.stype = .unused ∧ v.state = .unused ∧ v.island = none ∧ v.inputPos = none ∧ v.n = 2400 ∧ v.runUp = 0 ∧ v.travel = 0
    ∧ v.tail = 0 ∧ v.pos = none ∧ v.intervals = [] ∧ v.pulseRef = none ∧ v.rate = 0 ∧ v.band = false ∧ v.reached = false
    ∧ v.motor = false ∧ v.inch = false ∧ v.dowser = false ∧ v.hold = false ∧ v.lockout = none ∧ v.tailStop = none
    ∧ v.inchTarget = none ∧ v.silenceTimer = none ∧ v.inchTimer = none ∧ v.runupTimer = none ∧ s.map x = []
    ∧ s.slotHeld x = false)
  ∧ s.cues = [] ∧ s.arbiter.slot1 = none ∧ s.arbiter.slot2 = none ∧ s.arbiter.waits = [] ∧ s.arbiter.pointer = 7
  ∧ (∀ i, s.rundown i = [] ∧ s.live i = none ∧ (s.isl i).protect = none ∧ (s.isl i).emergEnable = false
      ∧ (s.isl i).margin = 0 ∧ (s.isl i).control = s.primaryLink ∧ (s.eng i).state = .idle ∧ (s.eng i).cue = none
      ∧ (s.eng i).window = none ∧ (s.eng i).takePending = false ∧ (s.eng i).holdPicture = false
      ∧ (s.eng i).triggerReached = false ∧ (s.eng i).switchKind = none ∧ (s.eng i).drive = none
      ∧ (s.eng i).attempts = none ∧ (s.eng i).attemptTimer = none ∧ (s.eng i).returnPos = none
      ∧ (s.eng i).origin = none)
  ∧ s.alarms.records = [] ∧ s.alarms.overflow = false ∧ s.alarms.silence = false ∧ s.alarms.bell = false
  ∧ s.alarms.lamp = .off
  ∧ (∀ p, let q := s.port p
    q.recv = .hunt ∧ q.buf = [] ∧ q.check = 0 ∧ q.interByte = none ∧ q.notices = [] ∧ q.overflow = false ∧ q.enCue = true
    ∧ q.enSource = true ∧ q.enIsland = true ∧ q.enAlarm = true ∧ q.restart = true ∧ q.attention = false)

/-! ### Invariants -/

/-- State.reset meets every invariant below. -/
def Obligations.ResetMeetsEveryInvariant : Prop :=
  OutputsSafe State.reset ∧ EngineFieldsFit State.reset ∧ TablesFit State.reset ∧ RundownsFit State.reset
  ∧ MapsFit State.reset ∧ CuesFitEngines State.reset ∧ NoWaitWhileFree State.reset ∧ InputsApart State.reset

/-- Every step keeps the outputs safe: lockout, darkness, types and slots (R5, R12, R14, R15, R104). -/
def Obligations.StepKeepsOutputsSafe : Prop := ∀ s t : State, OutputsSafe s → step s = .next t → OutputsSafe t

/-- Every step keeps the fields of the engines fitted to their states (R112), and, where the rundowns fit too, the current cues
fitted to the engines: the state of a current cue follows its engine's, a current cue is the head of its rundown, a move has a
switch kind, and no other CHANGEOVER or STOP is past WAITING and not ended (R80, R112). -/
def Obligations.StepKeepsEngineFieldsFit : Prop :=
  (∀ s t : State, EngineFieldsFit s → step s = .next t → EngineFieldsFit t)
  ∧ ∀ s t : State, EngineFieldsFit s → RundownsFit s → CuesFitEngines s → step s = .next t → CuesFitEngines t

/-- Every step keeps the stores and the values within their bounds (R8, R43, R68, R101, R136, R166); where they fit, it keeps the
wait set empty while a slot is free (R101); and it keeps configured sources at input positions of their own (R2). That a slot for
which a grant is decided counts as not free is the model's choice (log entry 3). -/
def Obligations.StepKeepsTablesFit : Prop :=
  (∀ s t : State, TablesFit s → step s = .next t → TablesFit t)
  ∧ (∀ s t : State, TablesFit s → NoWaitWhileFree s → step s = .next t → NoWaitWhileFree t)
  ∧ ∀ s t : State, InputsApart s → step s = .next t → InputsApart t

/-- Every step keeps the rundowns naming records of their own island that have not ended (R42, R68, R74). -/
def Obligations.StepKeepsRundownsFit : Prop := ∀ s t : State, RundownsFit s → step s = .next t → RundownsFit t

/-- Every step keeps the reel maps in order, free of overlaps, and empty at a source that is not a film source (R30). -/
def Obligations.StepKeepsMapsFit : Prop := ∀ s t : State, MapsFit s → step s = .next t → MapsFit t

/-! ### The links -/

/-- The bytes of a whole frame, arriving one by one at a port in HUNT, act as the frame taken at once: data beyond the 32nd byte
are not stored (R159, R160). -/
def Obligations.ByteWiseFrameIsTaken : Prop :=
  ∀ (s : State) (p : Link) (code : Byte) (data : List Byte),
    s.resetAsserted = false → (s.port p).recv = .hunt → data.length ≤ 255 →
    s.afterBytes p (0xC3 :: withCheck ([s.unitAddress.setWidth 8, code, byteOf data.length] ++ data))
      = s.takeFrame p code data.length (data.take 32)

/-- A frame whose check differs, or that names another unit address, leaves nothing behind: the port is in HUNT again (R160). -/
def Obligations.DamagedOrForeignFrameIsDropped : Prop :=
  ∀ (s : State) (p : Link) (address code check : Byte) (data : List Byte),
    s.resetAsserted = false → (s.port p).recv = .hunt → data.length ≤ 255 →
    (check ≠ crc ([address, code, byteOf data.length] ++ data) ∨ address ≠ s.unitAddress.setWidth 8) →
    s.afterBytes p (0xC3 :: ([address, code, byteOf data.length] ++ data) ++ [check])
      = s.setPort p { s.port p with recv := .hunt, buf := [], received := 0, check := 0, interByte := none }

/-- What a byte, a lost frame, an inter-byte expiry and the end of a response do to a port, by its reception state (R159, R160,
R163). -/
def Obligations.LineEventsMoveThePort : Prop :=
  ∀ (s : State) (p : Link) (b : Byte),
    let q := s.port p
    let lost : Port := { q with recv := .hunt, buf := [], received := 0, check := 0, interByte := none }
    (s.resetAsserted = false → q.recv = .hunt → b = 0xC3 → exec (.byteReceived p b) s = .next (s.setPort p
      { q with recv := .receive, buf := [], received := 0, check := 0, interByte := some (s.now + 200) }))
    ∧ (s.resetAsserted = false → q.recv = .hunt → b ≠ 0xC3 → exec (.byteReceived p b) s = .next s)
    ∧ (s.resetAsserted = false → q.recv = .receive → q.atCheck = false → exec (.byteReceived p b) s = .next (s.setPort p
      { q with buf := if q.received < 35 then q.buf ++ [b] else q.buf, received := q.received + 1,
               check := crcFold q.check b, interByte := some (s.now + 200) }))
    ∧ (q.recv = .answer → exec (.byteReceived p b) s = .next s)
    ∧ (q.recv ≠ .answer → exec (.frameDiscarded p) s = .next (s.setPort p lost)
        ∧ exec (.frameIgnored p) s = .next (s.setPort p lost)
        ∧ ∀ T, q.interByte = some T →
          exec (.interByteTimeout p) s = .next (({ s with now := max s.now T } : State).setPort p lost))
    ∧ (q.recv = .answer → q.resetPending = false →
        exec (.responseEnd p) s = .next (s.setPort p { q with recv := .hunt, response := [] }))

/-- The checks a taken frame meets before its command: the count, the code, the length of the data (R162). A frame whose code
names no command is answered UNKNOWN_COMMAND. -/
def Obligations.TakenFrameMeetsChecksInOrder : Prop :=
  ∀ (s : State) (p : Link) (code : Byte) (count : Nat) (data : List Byte), s.takes p = true →
    (32 < count → s.takeFrame p code count data = s.answered p code .badLength [])
    ∧ (count ≤ 32 → code ∉ commandCodes → s.takeFrame p code count data = s.answered p code .unknownCommand [])
    ∧ (count ≤ 32 → ∀ c ∈ commandSet, c.code = code →
        s.takeFrame p code count data = s.runCommand c p data
        ∧ (data.length ∉ c.lengths → s.runCommand c p data = s.answered p code .badLength []))
    ∧ (code ∈ commandCodes ↔ ∃ c ∈ commandSet, c.code = code)
    ∧ (code ∉ commandCodes → data.length ≤ 32 →
        exec (.unknownCommand p code data) s = .next (s.answered p code .unknownCommand []))
    ∧ (32 < data.length → exec (.unknownCommand p code data) s = .next (s.answered p code .badLength []))

/-- A refused command changes nothing and carries no data, whichever command it is and whatever its data (R162, R163). -/
def Obligations.RefusedCommandChangesNothing : Prop :=
  ∀ c ∈ commandSet, ∀ (p : Link) (data : List Byte) (s : State),
    (c.reply p data s).status ≠ .done → (c.reply p data s).state = s ∧ (c.reply p data s).data = []

/-- The response frame (R163): SYNC, the unit address, the code with its top bit set, the status, the count, the data, and a
check that closes the frame (R161). No command answers more than 32 bytes of data. -/
def Obligations.ResponseFrameLayout : Prop :=
  (∀ (address : BitVec 4) (code : Byte) (st : Status) (data : List Byte), data.length ≤ 32 →
    let f := responseFrame address code st data
    f.length = data.length + 6 ∧ f.take 5 = [0xC3, address.setWidth 8, code ||| 0x80, st.code, byteOf data.length]
    ∧ (f.drop 5).take data.length = data ∧ crc (f.drop 1) = 0)
  ∧ ∀ c ∈ commandSet, ∀ (p : Link) (data : List Byte) (s : State), (c.reply p data s).data.length ≤ 32

/-- A position of the counter's range reads back from what it is written as, in FRAMES form and in FEET form, and so does a spec
from what READ CUE SPEC writes it as (R27, R29, R63, R171). -/
def Obligations.PositionsAndSpecsReadBack : Prop :=
  (∀ p : Int, -8192 ≤ p → p ≤ 131071 →
    (∀ fpf : Option Nat, ∃ a b c, posBytes .frames fpf (some p) = [a, b, c] ∧ posArg .frames fpf a b c = some p)
    ∧ ∀ fpf : Nat, fpf = 16 ∨ fpf = 40 →
      ∃ a b c, posBytes .feet (some fpf) (some p) = [a, b, c] ∧ posArg .feet (some fpf) a b c = some p)
  ∧ ∀ (form : Form) (fpf : Nat), fpf = 16 ∨ fpf = 40 →
    (∀ p : Int, -8192 ≤ p → p ≤ 131071 →
      specAt form (some fpf) (specBytes form (some fpf) (some (.absolute p))) 0 = .given (some (.absolute p)))
    ∧ (∀ (tag offset : Nat) (anchor : Anchor), 1 ≤ tag → tag ≤ 4095 → offset ≤ 65535 →
      specAt form (some fpf) (specBytes form (some fpf) (some (.story tag offset anchor))) 0
        = .given (some (.story tag offset anchor)))
    ∧ specAt form (some fpf) (specBytes form (some fpf) none) 0 = .absent

/-! ### Resets -/

/-- POWER_ON takes every block to its power-on values with the straps read (R26, R158, R170). The reset input holds every output
off and the part takes no frame (R174). PART RESET is accepted from the primary link alone and taken at the end of its response
(R151, R170). The timers held in reset are the model's choice (log entry 18). -/
def Obligations.ResetCommandsTakeTheirValues : Prop :=
  ∀ (s : State) (address : BitVec 4) (primary p : Link),
    Answers (exec (.powerOn address primary) s) (fun t =>
      (∀ x, t.src x = { Source.powerOn with film := (s.src x).film, loop := (s.src x).loop, lamp := (s.src x).lamp,
                                            ready := (s.src x).ready, dirForward := (s.src x).dirForward }
        ∧ t.map x = [])
      ∧ (∀ i, t.rundown i = [] ∧ t.eng i = Engine.idle ∧ (t.isl i).mirrorLines = (s.isl i).mirrorLines
        ∧ (t.isl i).control = primary ∧ (t.isl i).protect = none ∧ (t.isl i).emergEnable = false ∧ (t.isl i).margin = 0
        ∧ (t.isl i).driftTimer = (if (s.isl i).sensed.isSome then none else some (s.now + 6000)))
      ∧ t.cues = [] ∧ t.arbiter = ⟨none, none, [], [], 7⟩ ∧ t.alarms = ⟨[], false, false⟩
      ∧ t.desk = Port.powerOn ∧ t.panel = Port.powerOn ∧ t.unitAddress = address ∧ t.primaryLink = primary
      ∧ t.resetAsserted = false ∧ t.now = s.now ∧ t.pending = s.pending)
    ∧ Answers (exec .resetInputAsserted s) (fun t =>
      (∀ x, (t.src x).motor = false ∧ (t.src x).inch = false ∧ (t.src x).dowser = false) ∧ (∀ i, (t.eng i).drive = none)
      ∧ t.alarms.bell = false ∧ t.alarms.lamp = .off ∧ (∀ q, (t.port q).attention = false ∧ t.takes q = false)
      ∧ t.now = s.now ∧ t.pending = s.pending)
    ∧ (s.takes p = true → s.primaryLink = p →
        exec (.partReset p []) s
          = .next ((s.setPort p { s.port p with resetPending := true }).answered p 0x7F .done []))
    ∧ (s.takes p = true → s.primaryLink ≠ p → exec (.partReset p []) s = .next (s.answered p 0x7F .notPrimary []))

/-- At the end of its response an accepted PART RESET keeps the configuration of sources and islands and empties everything
else (R170). Where no live film source has its lamp out, no condition is present afresh, and only the four ISLAND notices
stand. That these notices of one step stand in the order of the islands is the model's deduction (log entry 25): R166 leaves their
order open. -/
def Obligations.PartResetKeepsConfigurationAlone : Prop :=
  ∀ (s : State) (p : Link), (s.port p).recv = .answer → (s.port p).resetPending = true →
    (∀ x, s.isLive x = true → (s.src x).isFilm = true → (s.src x).lamp = true) →
    Answers (exec (.responseEnd p) s) (fun t =>
      (∀ x, let v := s.src x
        t.src x = { Source.powerOn with stype := v.stype, island := v.island, inputPos := v.inputPos, n := v.n,
                                        runUp := v.runUp, travel := v.travel, tail := v.tail, film := v.film, loop := v.loop,
                                        lamp := v.lamp, ready := v.ready, dirForward := v.dirForward }
        ∧ t.map x = [])
      ∧ (∀ i, t.rundown i = [] ∧ t.eng i = Engine.idle
        ∧ t.isl i = { s.isl i with control := s.strapPrimary, liveNone := false,
                                   driftTimer := if (s.isl i).sensed.isSome then none else some (s.now + 6000) })
      ∧ t.cues = [] ∧ t.arbiter = ⟨none, none, [], [], 7⟩ ∧ t.alarms = ⟨[], false, false⟩
      ∧ t.unitAddress = s.strapAddress ∧ t.primaryLink = s.strapPrimary
      ∧ t.port p = { Port.powerOn with notices := [.island 0, .island 1, .island 2, .island 3] }
      ∧ (t.port p.other).notices = [.island 0, .island 1, .island 2, .island 3] ∧ (t.port p.other).restart = true
      ∧ (t.port p.other).recv = (if (s.port p.other).recv = .answer then .answer else .hunt)
      ∧ t.now = s.now ∧ t.pending = s.pending)

/-! ### Source units: pulses and timers -/

/-- A pulse at a film source with no pulse reference is counted and not measured; a pulse at another source is not taken; where
a pulse crosses the tail stop the motor goes off, and where it crosses the inch target the inch goes off (R7, R10, R13, R23).
Such a first pulse lets the conditions follow, COUNT_RANGE among them (R8), and at O of an ARMED cue it tests the start point and
moves it not (R91, R94). A forward pulse of O that crosses t, with take-pending and hold-for-picture clear, sets trigger reached
in ARMED (R116), acts by the late policy in ROLLING and fires in READY (R115), and fires an ARMED STOP (R122). That a crossing
which sets hold-for-picture records no fire position is the model's choice (log entry 38), and that a fired record holds its fire
position of O, recorded at the firing (R52, R118), while FIRING already is its deduction (log entry 36). -/
def Obligations.PulseIsCountedAndCrosses : Prop :=
  ∀ (s : State) (x : Src) (forward : Bool) (elapsed : Nat),
    let v := s.src x
    let later : State := { s with now := s.now + elapsed }
    (v.isFilm = false → exec (.framePulse x forward elapsed) s = .next (later.setSrc x { v with dirForward := forward }))
    ∧ (v.isFilm = true → Answers (exec (.framePulse x forward elapsed) s) (fun t =>
        (t.src x).pos = v.pos.map (fun p => if forward then min 131071 (p + 1) else max (-8192) (p - 1))
        ∧ (v.pulseRef = none → FaultsFollow (later.setSrc x { v with
              pos := v.pos.map (fun p => if forward then min 131071 (p + 1) else max (-8192) (p - 1)),
              dirForward := forward, pulseRef := some (s.now + elapsed),
              silenceTimer := some (s.now + elapsed + 10000) }) t
            ∧ CondsFollow s t x
            ∧ ∀ i c y at' a, s.Carries i c y .armed → c.subject = x → v.Rolls → s.blockOf i c true = none →
              c.mode = .position → (s.src y).isFilm = true → c.slotRequested = false → c.startPoint = some a →
              v.pos = some at' →
              t.cue c.id = some { c with slotRequested := forward && decide (a ≤ min 131071 (at' + 1)) }
              ∧ (forward = true → a ≤ min 131071 (at' + 1) → t.arbiter.asked y = true))
        ∧ (∀ p target, v.pos = some p → forward = true → p < target → target ≤ min 131071 (p + 1) →
            (v.tailStop = some target → (t.src x).motor = false)
            ∧ (v.inchTarget = some target → (t.src x).inch = false ∧ (t.src x).inchTarget = none
                ∧ (t.src x).inchTimer = none)
            ∧ (∀ i c y k, c.resT = some target → c.subject = x → v.Rolls → (s.eng i).takePending = false →
              (s.eng i).holdPicture = false → (s.src y).inputPos = some k →
              (s.Carries i c y .armed → s.blockOf i c true = none → c.slotRequested = true →
                t.eng i = { s.eng i with triggerReached := true } ∧ t.cue c.id = some c)
              ∧ (s.Carries i c y .rolling →
                (c.policy = some .fireAtMark → Fired s t i c y k true false)
                ∧ (c.policy = some .holdForPicture → (s.src y).lostIncoming = false → (s.src y).state ≠ .atSpeed →
                  t.eng i = { s.eng i with holdPicture := true, triggerReached := false } ∧ t.cue c.id = some c)
                ∧ (c.policy = some .abandon → (t.src y).motor = false ∧ c.id ∉ t.rundown i
                  ∧ (s.rundown i = [c.id] → t.eng i = Engine.idle)
                  ∧ ∃ r, t.cue c.id = some r ∧ r.kept = c.kept ∧ r.state = .missed ∧ r.missCause = some .notReady
                    ∧ r.fireO = (t.src x).pos ∧ r.fireI = c.fireI ∧ r.fireErr = c.fireErr))
              ∧ (s.Carries i c y .ready → Fired s t i c y k false false))
            ∧ (∀ i c, c.resT = some target → c.subject = x → c.kind = .stop → c.island = i → v.island = some i →
              v.lamp = true → (s.eng i).state = .armed → c.state = .armed → s.current i = some c →
              (s.cues.map (·.id)).Nodup → (s.eng i).takePending = false → (s.eng i).holdPicture = false →
              (t.src x).motor = false ∧ c.id ∉ t.rundown i ∧ (s.rundown i = [c.id] → t.eng i = Engine.idle)
              ∧ (c.keep = false → t.cue c.id = none)
              ∧ (c.keep = true → ∃ r, t.cue c.id = some r ∧ r.kept = c.kept ∧ r.state = .done ∧ r.fireO = (t.src x).pos)))))

/-- A pulse with a pulse reference is measured (R9): the interval, the store of the 8 most recent, the rate, the timer; it moves
the band flag of a motor that stays on (R11); the first setting of that flag stops the run-up timer and releases the start slot, and
otherwise both stay (R11, R104, R106). The conditions follow: OVERSPEED, UNDERSPEED and COUNT_RANGE among them (R8,
R25). At O of an ARMED cue that has not asked it computes the start point anew and makes the request where O stands there (R91,
R94); after the request the preroll is frozen (R95). At I in ROLLING or READY the engine follows I's speed, and fires the cue at
READY with take-pending, or with hold-for-picture and p_I at q or beyond (R114). That a fired record holds its fire position of O,
recorded at the firing (R52, R118), while FIRING already (log entry 36), and that a reverse pulse too may make the request (log
entry 16), are the model's deductions. -/
def Obligations.PulseIsMeasured : Prop :=
  ∀ (s : State) (x : Src) (forward : Bool) (elapsed t0 : Nat), (s.src x).isFilm = true → (s.src x).pulseRef = some t0 →
    let v := s.src x
    let d := max 1 (min 65535 (s.now + elapsed - t0))
    let store := (v.intervals ++ [d]).drop (v.intervals.length - 7)
    let r := min 6000 ((store.length * 1000000 + store.sum / 2) / store.sum)
    let off := ((r : Int) - v.n).natAbs
    Answers (exec (.framePulse x forward elapsed) s) (fun t =>
      KeptByFaults (({ s with now := s.now + elapsed } : State).setSrc x { v with
          pos := v.pos.map (fun p => if forward then min 131071 (p + 1) else max (-8192) (p - 1)),
          dirForward := forward, pulseRef := some (s.now + elapsed), intervals := store, rate := r,
          silenceTimer := some (s.now + elapsed + 10000) }) t
      ∧ ((t.src x).motor = true → v.motor = true
        ∧ ((t.src x).band = true ↔ if v.band = true then off ≤ v.n / 25 else store.length = 8 ∧ off ≤ v.n / 50)
        ∧ ((t.src x).reached = true ↔ v.reached = true ∨ (t.src x).band = true)
        ∧ (v.reached = false → (t.src x).band = true → (t.src x).runupTimer = none ∧ t.slotHeld x = false)
        ∧ (v.reached = true ∨ (t.src x).band = false →
          (t.src x).runupTimer = v.runupTimer ∧ t.slotHeld x = s.slotHeld x))
      ∧ (5 * r < 2 * v.n → (t.src x).dowser = false)
      ∧ CondsFollow s t x
      ∧ (∀ i c y at' target q p, s.Carries i c y .armed → c.subject = x → v.Rolls → s.blockOf i c true = none →
          c.mode = .position → (s.src y).isFilm = true → c.resT = some target → c.resQ = some q →
          (s.src y).pos = some p → (t.src x).pos = some at' →
          let figures := prerollOf target q p (t.src x) (s.src y) (s.isl i).margin
          (c.slotRequested = true → t.cue c.id = some c ∧ (t.eng i).window = (s.eng i).window)
          ∧ (c.slotRequested = false →
            t.cue c.id = some { c with startPoint := some figures.start, shortLeader := figures.short,
                                       slotRequested := decide (figures.start ≤ at') }
            ∧ (t.eng i).window = some figures.window ∧ (figures.start ≤ at' → t.arbiter.asked y = true)))
      ∧ ∀ i c engine k, s.Carries i c x engine → engine = .rolling ∨ engine = .ready → v.Rolls → v.inputPos = some k →
          (c.mode = .position → (s.src c.subject).isRunning = true) →
          let fires := (s.eng i).takePending = true ∨ ((s.eng i).holdPicture = true ∧ t.pictureReached c x = true)
          ((t.src x).band = true → fires → Fired s t i c x k false (!(s.eng i).takePending))
          ∧ ((t.src x).band = true → ¬fires → t.eng i = { s.eng i with state := .ready }
            ∧ t.cue c.id = some { c with state := .ready })
          ∧ ((t.src x).band = false → t.eng i = { s.eng i with state := .rolling }
            ∧ t.cue c.id = some { c with state := .rolling }))

/-- A forward pulse that crosses the trigger of an ARMED MARK ends it DONE with the position after the pulse, kept or retired by
its keep flag (R61, R58). -/
def Obligations.MarkEndsAtItsCrossing : Prop :=
  ∀ (s : State) (x : Src) (elapsed : Nat) (c : CueRec) (p target : Int), (s.src x).isFilm = true →
    RundownsFit s → (∀ i, (s.eng i).cue ≠ some c.id) →
    c ∈ s.cues → c.kind = .mark → c.subject = x → c.state = .armed → c.resT = some target → (s.src x).pos = some p →
    p < target → target ≤ min 131071 (p + 1) →
    Answers (exec (.framePulse x true elapsed) s) (fun t =>
      (c.keep = false → t.cue c.id = none)
      ∧ (c.keep = true → ∃ r, t.cue c.id = some r ∧ r.kept = c.kept ∧ r.state = .done
          ∧ r.fireO = some (min 131071 (p + 1))))

/-- The silence expiry of a source (R10): the rate, the store, the reference and the band flag clear, and a motor that had
reached speed has stalled: it goes off under lockout and STALL is raised URGENT (R130). -/
def Obligations.SilenceStopsTheRate : Prop :=
  ∀ (s : State) (x : Src) (T : Nat), (s.src x).silenceTimer = some T →
    let v := s.src x
    Answers (exec (.silenceTimeout x) s) (fun t =>
      FaultsFollow (({ s with now := max s.now T } : State).setSrc x
        { v with rate := 0, intervals := [], pulseRef := none, silenceTimer := none, band := false,
                 dowser := v.dowser && !autoSafe 0 v.n }) t
      ∧ (v.motor = true → v.reached = true → (t.src x).motor = false ∧ (t.src x).lockout.isSome = true
        ∧ (s.alarmRoom → ∃ r, t.alarm (.source x) .stall = some r ∧ r.severity = .urgent ∧ r.state = .raised)))

/-- The inch timer's expiry turns the inch off and raises INCH_TIMEOUT (R20); the run-up timer's turns the motor off under
lockout and raises RUNUP_TIMEOUT, URGENT for the incoming of the current cue (R107, R130). -/
def Obligations.MotionTimersExpire : Prop :=
  ∀ (s : State) (x : Src) (T : Nat),
    let v := s.src x
    let later : State := { s with now := max s.now T }
    (v.inchTimer = some T → Answers (exec (.inchTimeout x) s) (fun t =>
        Follows (later.setSrc x { v with inch := false, inchTarget := none, inchTimer := none }) t
        ∧ (s.alarmRoom → ∃ r, t.alarm (.source x) .inchTimeout = some r ∧ r.state = .raised
          ∧ (s.alarm (.source x) .inchTimeout = none →
            r.severity = .warning ∧ r.count = 1 ∧ r.captured = v.pos))))
    ∧ (v.runupTimer = some T → v.motor = true → Answers (exec (.runupTimeout x) s) (fun t =>
        FaultsFollow later t ∧ (t.src x).motor = false ∧ (t.src x).runupTimer = none
        ∧ (t.src x).lockout = (if v.lockout.isSome then v.lockout else some .runupTimeout)
        ∧ (s.alarmRoom → ∃ r, t.alarm (.source x) .runupTimeout = some r ∧ r.state = .raised
          ∧ (s.alarm (.source x) .runupTimeout = none → r.count = 1 ∧ r.captured = v.pos
            ∧ r.severity = (if s.isIncoming x then .urgent else .warning)))))

/-! ### Source units: lines -/

/-- The loss of a film source's film (R24), and the fault of a loss with the motor on: FILM_BREAK under lockout for the live
source or the incoming, RUNOUT for another (R131). At another source the pin alone follows. In ROLLING and READY the loss of I's
film ends the cue MISSED INCOMING_LOST (R127), and the loss of O's, with the emergency enable off, MISSED OUTGOING_LOST with I's
motor off (R126), in either mode (log entry 27). -/
def Obligations.FilmLossStopsTheSource : Prop :=
  ∀ (s : State) (x : Src),
    let v := s.src x
    (v.isFilm = false → exec (.filmSenseLost x) s = .next (s.setSrc x { v with film := false }))
    ∧ (v.isFilm = true → v.film = true → Answers (exec (.filmSenseLost x) s) (fun t =>
        FaultsFollow (s.setSrc x { v with film := false, pos := none, inch := false, inchTarget := none, inchTimer := none,
                                          dowser := false }) t
        ∧ (t.src x).state = .unloaded ∧ (t.src x).motor = false ∧ (t.src x).dowser = false
        ∧ (s.quietAt x → v.motor = false → t.arbiter.asked x = false)
        ∧ (v.motor = true → (s.isLive x || s.isIncoming x) = true → (t.src x).lockout.isSome = true
          ∧ (s.alarmRoom → ∃ r, t.alarm (.source x) .filmBreak = some r ∧ r.severity = .urgent ∧ r.state = .raised
            ∧ (s.alarm (.source x) .filmBreak = none → r.captured = v.pos)))
        ∧ (v.motor = true → (s.isLive x || s.isIncoming x) = false → (t.src x).lockout = v.lockout
          ∧ (s.alarmRoom → ∃ r, t.alarm (.source x) .runout = some r ∧ r.state = .raised
            ∧ (s.alarm (.source x) .runout = none → r.severity = .warning ∧ r.captured = v.pos)))
        ∧ (v.motor = false → (t.src x).lockout = v.lockout)
        ∧ ∀ i c y k, s.Carries i c y k → k = .rolling ∨ k = .ready →
          (y = x → EndsMissed t i c .incomingLost ∧ (s.rundown i = [c.id] → t.eng i = Engine.idle))
          ∧ (c.subject = x → (s.isl i).emergEnable = false → (s.src y).lostIncoming = false →
            EndsMissed t i c .outgoingLost ∧ (t.src y).motor = false
            ∧ (s.rundown i = [c.id] → t.eng i = Engine.idle))))

/-- The other sense lines are followed, and nothing of a source changes with them but what the conditions, the fault logic and
the evaluations change (R5, R24, R25). With the lamp and the loop line the conditions follow: LAMP_FAIL and LOOP_LOSS begin and end
with their tests, and so do their records (R25, R130, R138). A still I that is no longer ready in READY ends its cue MISSED
INCOMING_LOST (R127). -/
def Obligations.SenseLinesAreFollowed : Prop :=
  ∀ (s : State) (x : Src) (b : Bool),
    let v := s.src x
    Answers (exec (.filmSenseReturn x) s) (fun t =>
      Follows (s.setSrc x { v with film := true }) t ∧ (v.isFilm = true → v.film = false → v.pos = none → v.inch = false →
        v.motor = false → (t.src x).state = (if v.rate > 0 then .stopping else .threaded)))
    ∧ Answers (exec (.lampSenseChange x b) s) (fun t => FaultsFollow (s.setSrc x { v with lamp := b }) t
      ∧ (v.isFilm = true → CondsFollow s t x))
    ∧ Answers (exec (.loopSenseChange x b) s) (fun t => FaultsFollow (s.setSrc x { v with loop := b }) t
      ∧ (v.isFilm = true → CondsFollow s t x))
    ∧ Answers (exec (.readyInputChange x b) s) (fun t => Follows (s.setSrc x { v with ready := b }) t
      ∧ (v.stype = .still → (t.src x).state = (if b then .stillReady else .unloaded))
      ∧ ∀ i c, s.Carries i c x .ready → v.stype = .still → b = false →
        EndsMissed t i c .incomingLost ∧ (s.rundown i = [c.id] → t.eng i = Engine.idle))

/-- LAMP_FAIL begins at a film source that runs or is live when its lamp goes out: it locks the source out with every output
off, and is raised, URGENT at the live source (R25, R130, R132). At the live source of an island with the emergency enable on
and its engine free an emergency is taken: a usable protect source is driven to, with EMERGENCY_TAKEN; without one NO_PROTECT is
raised and the mirror stays (R146, R147). A cue that the engine carries ends MISSED EMERGENCY first: in ARMED its request is
withdrawn, in ROLLING and READY its I is stopped unless it is the protect source, and the alarm carries the cue id (R147). -/
def Obligations.LampFailureLocksOutAndTakesEmergency : Prop :=
  ∀ (s : State) (x : Src),
    let v := s.src x
    v.isFilm = true → (v.motor || s.isLive x) = true → v.conds.lampFail = false → s.alarmRoom →
    (v.lockout = none → Answers (exec (.lampSenseChange x false) s) (fun t =>
      (t.src x).lockout = some .lampFail ∧ (t.src x).motor = false ∧ (t.src x).inch = false ∧ (t.src x).dowser = false
      ∧ (t.src x).tailStop = none
      ∧ (s.alarm (.source x) .lampFail = none → ∃ r, t.alarm (.source x) .lampFail = some r ∧ r.count = 1
        ∧ r.captured = v.pos ∧ r.severity = (if s.isLive x then .urgent else .warning))))
    ∧ (∀ i, v.island = some i → s.live i = some x → (s.isl i).emergEnable = true → s.eng i = Engine.idle →
      s.rundown i = [] →
      (∀ y k, s.usableProtect i = some y → (s.src y).inputPos = some k →
        Answers (exec (.lampSenseChange x false) s) (fun t =>
          t.eng i = { Engine.idle with state := .switching, switchKind := some .emergency, drive := some k,
                                       attempts := some 1, attemptTimer := some (s.now + 6000) }
          ∧ ((s.src y).openBarred = false → (t.src y).dowser = true)
          ∧ (t.alarm (.island i) .emergencyTaken).isSome = true ∧ (t.isl i).driftTimer = none))
      ∧ (s.usableProtect i = none → Answers (exec (.lampSenseChange x false) s) (fun t =>
          t.eng i = Engine.idle ∧ (t.alarm (.island i) .noProtect).isSome = true)))
    ∧ ∀ i c y k, s.Carries i c y k → k = .armed ∨ k = .rolling ∨ k = .ready → c.subject = x →
      (s.isl i).emergEnable = true → RundownsFit s → CuesFitEngines s →
      Answers (exec (.lampSenseChange x false) s) (fun t =>
        EndsMissed t i c .emergency
        ∧ (k = .armed → (s.usableProtect i).isSome = true ∨ s.rundown i = [c.id] → t.arbiter.asked y = false)
        ∧ (k ≠ .armed → (t.src y).motor = (if (s.isl i).protect = some y then (s.src y).motor else false))
        ∧ (∀ z at', s.usableProtect i = some z → (s.src z).inputPos = some at' →
          t.eng i = { Engine.idle with state := .switching, switchKind := some .emergency, drive := some at',
                                       attempts := some 1, attemptTimer := some (s.now + 6000) }
          ∧ ∃ r, t.alarm (.island i) .emergencyTaken = some r ∧ r.cueId = some c.id)
        ∧ (s.usableProtect i = none → (s.rundown i = [c.id] → t.eng i = Engine.idle)
          ∧ ∃ r, t.alarm (.island i) .noProtect = some r ∧ r.cueId = some c.id))

/-! ### Mirrors and the arbiter -/

/-- The mirror lines read as R174 says, a level that leaves the reading as it was changes nothing else, and the drift timer runs
while the mirror stands BETWEEN with no move (R110). Its expiry raises LIVE_NONE, URGENT (R110, R133). -/
def Obligations.MirrorLinesAndDrift : Prop :=
  (∀ lines : BitVec 4, mirrorReading lines
    = if lines = 0b0001 then some 0 else if lines = 0b0010 then some 1 else if lines = 0b0100 then some 2
      else if lines = 0b1000 then some 3 else none)
  ∧ ∀ (s : State) (i : Isl) (lines : BitVec 4),
    let u := s.setIsl i { s.isl i with mirrorLines := lines }
    (mirrorReading lines = (s.isl i).sensed → exec (.mirrorSenseChange i lines) s = .next u)
    ∧ (s.resetAsserted = false → Answers (exec (.mirrorSenseChange i lines) s) (fun t =>
        KeptByFaults u t
        ∧ (mirrorReading lines ≠ (s.isl i).sensed → (mirrorReading lines).isSome = true →
          (t.isl i).driftTimer = none ∧ (t.isl i).liveNone = false)
        ∧ (mirrorReading lines = none → (s.isl i).sensed.isSome = true → (s.isl i).driftTimer = none →
          (s.eng i).moving = false → s.quiet i → (t.isl i).driftTimer = some (s.now + 6000))))
    ∧ ∀ T, (s.isl i).driftTimer = some T → Answers (exec (.driftTimeout i) s) (fun t =>
        ButNotices { (({ s with now := max s.now T } : State).setIsl i
          { s.isl i with driftTimer := none, liveNone := true }) with alarms := t.alarms } t
        ∧ (s.alarmRoom → ∃ r, t.alarm (.island i) .liveNone = some r ∧ r.severity = .urgent ∧ r.state = .raised))

/-- The confirm of a move (R119). CUE (R120): O's dowser closes, O's tail is asked for, the cue ends DONE and leaves the rundown,
the engine is IDLE, and CUE_SLIP is raised where the fire error is beyond the slip limit; nothing waits behind the cue here, and the
emergency enable is off. CUT (R124), EMERGENCY (R148) and a return: the engine is IDLE, the source at the target is live and loses
its tail stop (R23), and no cue ends; a CUT closes the dowser of its origin and asks for its tail, the others leave the motors and
dowsers as they were. Nothing stands in the rundown here, and no emergency is due at the target. -/
def Obligations.ConfirmEndsTheCueSwitch : Prop :=
  ∀ (s : State) (i : Isl) (lines : BitVec 4) (k : InPos),
    let handsOver := fun (x : Src) (t : State) =>
      let o := s.src x
      (t.src x).dowser = false
      ∧ (o.lamp = true → o.isFilm = true →
        (∀ p, o.motor = true → o.pos = some p → 0 < o.tail → t.live i ≠ some x →
          (t.src x).motor = true ∧ (t.src x).tailStop = some (min 131071 (p + (o.tail : Int))))
        ∧ (o.motor = true → o.pos = none ∨ o.tail = 0 → (t.src x).motor = false))
    s.resetAsserted = false → mirrorReading lines = some k → (s.isl i).sensed ≠ some k → (s.eng i).drive = some k →
    (∀ c, (s.eng i).state = .switching → (s.eng i).switchKind = some .cue →
      s.current i = some c → c.island = i → s.rundown i = [c.id] → (s.isl i).emergEnable = false →
      (s.src c.subject).lamp = true → (s.src c.subject).isFilm = true →
      Answers (exec (.mirrorSenseChange i lines) s) (fun t =>
        t.eng i = Engine.idle ∧ t.rundown i = [] ∧ handsOver c.subject t
        ∧ (c.keep = false → t.cue c.id = none) ∧ (c.keep = true → ∃ r, t.cue c.id = some r ∧ r.state = .done ∧ r.kept = c.kept)
        ∧ (∀ e limit, s.alarmRoom → c.fireErr = some e → c.slipLimit = some limit → limit < e.natAbs →
            (t.alarm (.island i) .cueSlip).isSome = true)))
    ∧ (s.quiet i → (s.eng i).state = .returning ∨ ((s.eng i).state = .switching
        ∧ ((s.eng i).switchKind = some .cut ∨ (s.eng i).switchKind = some .emergency)) →
      (s.isl i).emergEnable = false ∨ (∀ x, s.sourceAt i k = some x →
        (s.src x).lockout = none ∧ (s.src x).conds.lampFail = false ∧ ((s.src x).isFilm = true → (s.src x).lamp = true)) →
      Answers (exec (.mirrorSenseChange i lines) s) (fun t =>
        t.eng i = Engine.idle ∧ t.live i = s.sourceAt i k ∧ t.cues = s.cues ∧ t.rundowns = s.rundowns
        ∧ (∀ x, s.sourceAt i k = some x → (t.src x).tailStop = none)
        ∧ ((s.eng i).state = .switching → (s.eng i).switchKind = some .cut →
          ∀ x, (s.eng i).origin = some (some x) → handsOver x t)
        ∧ ((s.eng i).state = .returning ∨ (s.eng i).switchKind = some .emergency →
          ∀ y, (s.src y).lamp = true → (s.src y).conds.lampFail = false →
            (t.src y).motor = (s.src y).motor ∧ (t.src y).dowser = (s.src y).dowser)))

/-- The attempt timer's expiry (R119): attempts 2 and 3 drive anew; after the third a CUT fails with MIRROR_FAULT and the mirror
is driven back (R124); a CUE switch fails with MIRROR_FAULT for its cue, which ends MISSED MIRROR with its I closed and stopped,
and the mirror is driven back to O, or the engine is IDLE at once where it stands there still (R121); an EMERGENCY switch fails with MIRROR_FAULT alone: no return and no emergency judgement
(R148). An expired return ends IDLE, with the drift timer running where the mirror stands BETWEEN. -/
def Obligations.AttemptTimerExpires : Prop :=
  ∀ (s : State) (i : Isl) (k : InPos) (T : Nat),
    let later : State := { s with now := max s.now T }
    (s.eng i).attemptTimer = some T → (s.eng i).drive = some k →
    Answers (exec (.mirrorAttemptTimeout i) s) (Kept later)
    ∧ (∀ m, (s.eng i).state = .switching → (s.eng i).attempts = some m → m < 3 → (s.isl i).driftTimer = none →
      (s.isl i).liveNone = false → Answers (exec (.mirrorAttemptTimeout i) s) (fun t =>
        ButNotices (later.setEng i { s.eng i with attempts := some (m + 1),
                                                  attemptTimer := some (max s.now T + 6000) }) t))
    ∧ (∀ back x, (s.eng i).state = .switching → (s.eng i).attempts = some 3 → (s.eng i).switchKind = some .cut →
      (s.eng i).cue = none → (s.eng i).returnPos = some back → (s.isl i).sensed ≠ some back → s.sourceAt i k = some x →
      s.rundown i = [] → s.alarmRoom → Answers (exec (.mirrorAttemptTimeout i) s) (fun t =>
        t.eng i = { Engine.idle with state := .returning, switchKind := some .cut, returnPos := some back,
                                     drive := some back, attempts := some 1, attemptTimer := some (max s.now T + 6000) }
        ∧ (t.src x).dowser = false ∧ (t.src x).motor = (s.src x).motor
        ∧ ∃ r, t.alarm (.island i) .mirrorFault = some r ∧ r.severity = .urgent ∧ r.state = .raised))
    ∧ (∀ back c x, s.Carries i c x .switching → (s.eng i).attempts = some 3 → (s.eng i).switchKind = some .cue →
      (s.eng i).returnPos = some back → s.alarmRoom → RundownsFit s → CuesFitEngines s →
      Answers (exec (.mirrorAttemptTimeout i) s) (fun t =>
        EndsMissed t i c .mirror ∧ ((s.src x).isFilm = true → (t.src x).motor = false)
        ∧ ((s.isl i).sensed ≠ some back → (t.src x).dowser = false ∧ t.src c.subject = s.src c.subject
          ∧ t.eng i = { Engine.idle with state := .returning, switchKind := some .cue, returnPos := some back,
                                         drive := some back, attempts := some 1,
                                         attemptTimer := some (max s.now T + 6000) })
        ∧ ((s.isl i).sensed = some back → (s.isl i).emergEnable = false → (t.src x).dowser = false
          ∧ (s.rundown i = [c.id] → t.eng i = Engine.idle))
        ∧ ∃ r, t.alarm (.island i) .mirrorFault = some r ∧ r.severity = .urgent ∧ r.state = .raised
          ∧ r.cueId = some c.id))
    ∧ (∀ x, (s.eng i).state = .switching → (s.eng i).attempts = some 3 → (s.eng i).switchKind = some .emergency →
      s.sourceAt i k = some x → s.quiet i → s.alarmRoom → Answers (exec (.mirrorAttemptTimeout i) s) (fun t =>
        t.eng i = Engine.idle ∧ (t.src x).dowser = false ∧ (t.src x).motor = (s.src x).motor
        ∧ (∀ o c, (o, c) ≠ (.island i, .mirrorFault) → t.alarm o c = s.alarm o c)
        ∧ (t.isl i).driftTimer = (if (s.isl i).sensed.isNone && (s.isl i).driftTimer.isNone then
            some (max s.now T + 6000) else (s.isl i).driftTimer)
        ∧ ∃ r, t.alarm (.island i) .mirrorFault = some r ∧ r.severity = .urgent ∧ r.state = .raised
          ∧ (s.alarm (.island i) .mirrorFault = none → r.cueId = none)))
    ∧ ((s.eng i).state = .returning → s.quiet i → (s.isl i).emergEnable = false →
      Answers (exec (.mirrorAttemptTimeout i) s) (fun t =>
        t.eng i = Engine.idle ∧ t.alarms = s.alarms ∧ t.sources = s.sources
        ∧ (t.isl i).driftTimer = (if (s.isl i).sensed.isNone && (s.isl i).driftTimer.isNone then
            some (max s.now T + 6000) else (s.isl i).driftTimer)))

/-- A grant of RUN's request (R103): the lower-numbered free slot, the pointer, and the motor with its flags clear and its run-up
timer running (R12, R106). The source's lamp is lit and nothing waits in its island's rundown. The clauses on `due`, the list of
grants decided and not yet taken, state the model's own choice (log entry 3) and no rule of the spec. -/
def Obligations.RunGrantStartsTheMotor : Prop :=
  ∀ (s : State) (x : Src) (rest : List Request), s.arbiter.due = ⟨x, .run⟩ :: rest → 0 < s.arbiter.free →
    (s.src x).lamp = true → s.quietAt x →
    Answers (exec .slotGrant s) (fun t =>
      t.arbiter = (if s.arbiter.slot1 = none then
          { s.arbiter with due := rest, slot1 := some x, pointer := x }
        else { s.arbiter with due := rest, slot2 := some x, pointer := x })
      ∧ t.src x = { s.src x with motor := true, band := false, reached := false,
                                 runupTimer := some (s.now + 10 * max (2 * (s.src x).runUp) 2000),
                                 conds := (t.src x).conds }
      ∧ (∀ y, y ≠ x → t.src y = s.src y) ∧ t.cues = s.cues ∧ t.engines = s.engines ∧ t.rundowns = s.rundowns
      ∧ KeptByFaults s t)

/-- A grant of an engine's request starts the roll or ends the cue (R96 to R99): the slip at the grant against the slip limit,
then the late policy. With take-pending set, or in TAKE mode, no slip is judged (R99). Where trigger reached is set and the start
proceeds, the deferred decision is taken at once (R116): FIRE_AT_MARK fires with NOT_AT_SPEED, HOLD_FOR_PICTURE sets
hold-for-picture, ABANDON ends the cue MISSED NOT_READY with the fire position of O. The engine is ARMED with the head as its current
cue, and its parties stand. That the record fired so holds its fire position of O while FIRING already is the model's deduction (log
entry 36), and that the deferred decision which sets hold-for-picture records no fire position of O is its choice (log entry 38). -/
def Obligations.EngineGrantStartsTheRoll : Prop :=
  ∀ (s : State) (x : Src) (i : Isl) (rest : List Request) (c : CueRec),
    let v := s.src x
    let slip := s.slipOf i c
    let limit : Int := c.slipLimit.getD 0
    let started : CueRec := { c with state := .rolling, slotRequested := false,
                                     lateStart := c.lateStart || slip.any (0 < ·) }
    s.arbiter.due = ⟨x, .engine i⟩ :: rest → 0 < s.arbiter.free →
    v.isFilm = true → v.film = true → v.lamp = true → v.lockout = none → v.island = some i →
    (s.eng i).state = .armed → s.current i = some c → s.head i = some c → c.island = i →
    c.state = .armed → c.partner = some x → c.subject ≠ x → s.live i = some c.subject →
    (c.mode = .position → (s.src c.subject).isRunning = true) →
    (c.mode = .take ∨ (s.eng i).takePending = true → slip = none)
    ∧ ((s.eng i).triggerReached = false → slip.all (· ≤ limit) = true ∨ c.policy = some .fireAtMark →
      Answers (exec .slotGrant s) (fun t => KeptByFaults s t ∧ t.eng i = { s.eng i with state := .rolling }
        ∧ (t.src x).motor = true ∧ t.slotHeld x = true ∧ t.cue c.id = some started))
    ∧ ((s.eng i).triggerReached = false → slip.any (limit < ·) = true → c.policy = some .holdForPicture →
      Answers (exec .slotGrant s) (fun t => KeptByFaults s t
        ∧ t.eng i = { s.eng i with state := .rolling, holdPicture := true }
        ∧ (t.src x).motor = true ∧ t.slotHeld x = true ∧ t.cue c.id = some started))
    ∧ (slip.any (limit < ·) = true → c.policy = some .abandon →
      Answers (exec .slotGrant s) (fun t => KeptByFaults s t ∧ (t.src x).motor = false ∧ t.slotHeld x = false
        ∧ ∃ r, t.cue c.id = some r ∧ r.state = .missed ∧ r.missCause = some .late ∧ r.lateStart = true
          ∧ c.id ∉ t.rundown i))
    ∧ ((s.eng i).triggerReached = true → (s.eng i).takePending = false →
      (∀ k, c.policy = some .fireAtMark → v.inputPos = some k →
        Answers (exec .slotGrant s) (fun t => KeptByFaults s t ∧ Fired s t i c x k true false
          ∧ (t.cue c.id).map (·.lateStart) = some started.lateStart ∧ (t.src x).motor = true ∧ t.slotHeld x = true))
      ∧ (c.policy = some .holdForPicture →
        Answers (exec .slotGrant s) (fun t => KeptByFaults s t
          ∧ t.eng i = { s.eng i with state := .rolling, holdPicture := true, triggerReached := false }
          ∧ (t.src x).motor = true ∧ t.slotHeld x = true ∧ t.cue c.id = some started))
      ∧ (c.policy = some .abandon → slip.all (· ≤ limit) = true →
        Answers (exec .slotGrant s) (fun t => KeptByFaults s t ∧ (t.src x).motor = false ∧ t.slotHeld x = false
          ∧ c.id ∉ t.rundown i
          ∧ ∃ r, t.cue c.id = some r ∧ r.kept = c.kept ∧ r.state = .missed ∧ r.missCause = some .notReady
            ∧ r.lateStart = started.lateStart ∧ r.fireO = (s.src c.subject).pos ∧ r.fireI = c.fireI
            ∧ r.fireErr = c.fireErr)))

/-- A waiting request is chosen in turn from the source after the pointer, and where any waits one is chosen (R104). A release
hands the slot it frees to the request so chosen, and leaves it free where none waits. That the choice counts from the last grant
decided (`turnFrom`), and stands in `due` until it is taken, is the model's choice (log entry 3). -/
def Obligations.ChoiceGoesRoundFromThePointer : Prop :=
  (∀ (pointer : Src) (waits : List Request),
    (∀ r, nextInTurn pointer waits = some r →
      r ∈ waits ∧ ∀ w ∈ waits, (r.source - pointer - 1).val ≤ (w.source - pointer - 1).val)
    ∧ (waits ≠ [] → (nextInTurn pointer waits).isSome = true))
  ∧ (∀ s : State, s.arbiter.spare = true →
    (∀ r, nextInTurn s.arbiter.turnFrom s.arbiter.waits = some r →
      s.refill.arbiter = { s.arbiter with waits := s.arbiter.waits.filter (fun w => w.source != r.source),
                                          due := s.arbiter.due ++ [r] })
    ∧ (s.arbiter.waits = [] → s.refill = s))
  ∧ (∀ a : Arbiter, (a.due = [] → a.turnFrom = a.pointer) ∧ ∀ l r, a.due = l ++ [r] → a.turnFrom = r.source)
  ∧ ∀ (s : State) (x : Src), s.slotHeld x = true → s.arbiter.slot1 ≠ s.arbiter.slot2 →
    s.arbiter.due.length = s.arbiter.free →
    let freed := { s.arbiter with slot1 := if s.arbiter.slot1 = some x then none else s.arbiter.slot1,
                                  slot2 := if s.arbiter.slot2 = some x then none else s.arbiter.slot2 }
    (s.arbiter.waits = [] → (s.release x).arbiter = freed)
    ∧ (s.arbiter.waits ≠ [] → ∃ r, nextInTurn s.arbiter.turnFrom s.arbiter.waits = some r
      ∧ (s.release x).arbiter = { freed with waits := s.arbiter.waits.filter (fun w => w.source != r.source),
                                             due := s.arbiter.due ++ [r] })

/-! ### Commands on sources -/

/-- CONFIGURE SOURCE stores a configuration that passes its checks, with the further effects of a change of type (R2, R3). With the
type unchanged the band flag of a motor that stays on clears where the rate lies outside the leave band of the new n, and a film
source too slow for the new n stands with its dowser closed (R3, R14). The protect source of an island that the source leaves becomes
absent (R108). -/
def Obligations.ConfigureSourceStores : Prop :=
  ∀ (s : State) (p : Link) (x : Src) (i : Isl) (k : InPos) (type : SourceType) (n u d tail : Nat) (g : SourceConfig),
    let v := s.src x
    let film := type = .film35 ∨ type = .film16
    s.takes p = true → s.controlsOf p x = true → (type ≠ .unused → s.controls p i = true) →
    (film → 1600 ≤ n ∧ n ≤ 3000 ∧ u ≤ 15000 ∧ d ≤ 400 ∧ tail ≤ 480 ∧ d ≤ ceilDiv (n * u) 100000) →
    (film → g = ⟨type, some i, some k, n, u, d, tail⟩) → (type = .still → g = ⟨.still, some i, some k, 2400, 0, 0, 0⟩) →
    (type = .unused → g = ⟨.unused, none, none, 2400, 0, 0, 0⟩) →
    s.inUse x = false → s.changeBarred x g = false → s.clashes x g = false →
    Answers (exec (.configureSource p ([numByte x, byteOf type.code, numByte i, numByte k] ++ wordBytes n ++ wordBytes u
        ++ wordBytes d ++ wordBytes tail)) s) (fun t =>
      KeptByFaults (({ s with sources := t.sources, maps := t.maps, islands := t.islands, cues := t.cues } : State).answered
        p 0x30 .done []) t
      ∧ (let w := t.src x
        w.stype = g.stype ∧ w.island = g.island ∧ w.inputPos = g.inputPos ∧ w.n = g.n ∧ w.runUp = g.runUp
        ∧ w.travel = g.travel ∧ w.tail = g.tail ∧ w.rate = v.rate ∧ (type = .unused → w.hold = false ∧ w.lockout = none)
        ∧ (type ≠ .unused → w.hold = v.hold)
        ∧ (g.stype ≠ v.stype → w.pos = none ∧ w.intervals = [] ∧ w.pulseRef = none ∧ w.silenceTimer = none
          ∧ t.map x = [])
        ∧ (g.stype = v.stype → w.pos = v.pos ∧ w.intervals = v.intervals ∧ w.pulseRef = v.pulseRef
          ∧ w.silenceTimer = v.silenceTimer ∧ t.map x = s.map x
          ∧ (w.motor = true → v.motor = true ∧ w.reached = v.reached
            ∧ (w.band = true ↔ v.band = true ∧ ((v.rate : Int) - g.n).natAbs ≤ g.n / 25)))
        ∧ (film → 5 * v.rate < 2 * g.n → w.dowser = false))
      ∧ (∀ j, (t.isl j).protect = if v.island = some j ∧ g.island ≠ some j ∧ (s.isl j).protect = some x then none
          else (s.isl j).protect)
      ∧ (∀ y, y ≠ x → (t.src y).keptByFaults = (s.src y).keptByFaults ∧ t.map y = s.map y)
      ∧ (∀ j, (t.isl j).control = (s.isl j).control ∧ (t.isl j).mirrorLines = (s.isl j).mirrorLines))

/-- ZERO COUNTER sets the counter, to 0 or to the value given (R17). Where the counter becomes valid, a resolved WAITING MARK on the
source is armed; an ARMED one, and one that is not resolved, stays as it is (R59, R60). -/
def Obligations.ZeroCounterSetsThePosition : Prop :=
  ∀ (s : State) (p : Link) (x : Src), s.commands p x →
    let v := s.src x
    let marks := fun (t : State) => RundownsFit s → ∀ c, s.cue c.id = some c → c.kind = .mark → c.subject = x →
      (∀ i, (s.eng i).cue ≠ some c.id) →
      (v.pos = none → c.state = .waiting → c.unresolved = none → t.cue c.id = some { c with state := .armed })
      ∧ (c.state = .armed ∨ c.unresolved.isSome = true → t.cue c.id = some c)
    v.isFilm = true → v.film = true → v.rate = 0 → v.motor = false → v.inch = false → s.inFlightParty x = false →
    Answers (exec (.zeroCounter p [numByte x]) s) (fun t =>
      FaultsFollow ((s.setSrc x { v with pos := some 0 }).answered p 0x31 .done []) t ∧ (t.src x).state = .parked
      ∧ marks t)
    ∧ ∀ (form : Form) (f a b c : Byte) (value : Int), formOf f.toNat = some form →
      posArg form v.stype.fpf a b c = some value →
      Answers (exec (.zeroCounter p [numByte x, f, a, b, c]) s) (fun t =>
        FaultsFollow ((s.setSrc x { v with pos := some value }).answered p 0x31 .done []) t ∧ (t.src x).state = .parked
        ∧ marks t)

/-- RUN removes the tail stop of a running motor, or asks the arbiter for a start (R18, R102). STOP turns the motor and the inch
off and withdraws a request (R19). That a request which finds a slot spare stands in `due` until its grant is taken, where R102
grants it at once, is the model's choice (log entry 3), and the clause on the arbiter states it. In ROLLING and READY a STOP at I
ends the cue MISSED INCOMING_LOST (R127); a STOP at O ends a POSITION-mode cue MISSED OUTGOING_LOST with I's motor off, and leaves
a TAKE-mode cue with its engine (R126). -/
def Obligations.RunAndStopActOnTheMotor : Prop :=
  ∀ (s : State) (p : Link) (x : Src), s.commands p x →
    let v := s.src x
    v.isStill = false →
    (v.lockout = none → v.hold = false → v.state ≠ .inching → v.state ≠ .unloaded → s.isIncoming x = false →
      Answers (exec (.run p [numByte x]) s) (fun t =>
        Follows (s.answered p 0x32 .done []) t ∧ (v.motor = true → (t.src x).tailStop = none)
        ∧ (v.motor = false → s.quietAt x → t.arbiter =
          if s.arbiter.asked x then s.arbiter
          else if s.arbiter.spare then { s.arbiter with due := s.arbiter.due ++ [⟨x, .run⟩] }
          else { s.arbiter with waits := s.arbiter.waits ++ [⟨x, .run⟩] })))
    ∧ Answers (exec (.stop p [numByte x]) s) (fun t =>
        Follows ((s.setSrc x { v with inch := false, inchTarget := none, inchTimer := none }).answered p 0x33 .done []) t
        ∧ (t.src x).motor = false ∧ (t.src x).tailStop = none ∧ (s.quietAt x → t.arbiter.asked x = false)
        ∧ ∀ i c y k, s.Carries i c y k → k = .rolling ∨ k = .ready →
          (y = x → EndsMissed t i c .incomingLost ∧ (s.rundown i = [c.id] → t.eng i = Engine.idle))
          ∧ (c.subject = x → (s.src y).lostIncoming = false →
            (c.mode = .position → EndsMissed t i c .outgoingLost ∧ (t.src y).motor = false
              ∧ (s.rundown i = [c.id] → t.eng i = Engine.idle))
            ∧ (c.mode = .take → (t.eng i).cue = some c.id ∧ (t.src y).motor = (s.src y).motor)))

/-- INCH TO starts inching toward a target ahead of the counter, with the inch timer running for 30 s (R20). -/
def Obligations.InchToStartsInching : Prop :=
  ∀ (s : State) (p : Link) (x : Src) (form : Form) (f a b c : Byte) (at' target : Int), s.commands p x →
    let v := s.src x
    v.lockout = none → v.state = .parked → v.isFilm = true → s.arbiter.asked x = false → s.isIncoming x = false →
    formOf f.toNat = some form → posArg form v.stype.fpf a b c = some target → v.pos = some at' → at' < target →
    Answers (exec (.inchTo p [numByte x, f, a, b, c]) s) (fun t =>
      Follows ((s.setSrc x { v with inch := true, inchTarget := some target,
                                    inchTimer := some (s.now + 300000) }).answered p 0x34 .done []) t
      ∧ (t.src x).state = .inching)

/-- DOWSER opens and closes the dowser of a source that is neither live nor a party to a cue in flight, and nothing else; a
change posts a SOURCE notice (R6, R21). An OPEN of a locked, dark or unready source is refused BUSY. -/
def Obligations.DowserOpensAndCloses : Prop :=
  ∀ (s : State) (p : Link) (x : Src), s.commands p x → s.isLive x = false → s.inFlightParty x = false →
    let v := s.src x
    let refused := v.lockout.isSome || v.filmDark || (v.isStill && !v.ready)
    (refused = false → Answers (exec (.dowser p [numByte x, 1]) s) (fun t =>
      ButNotices ((s.setSrc x { v with dowser := true }).answered p 0x35 .done []) t
      ∧ ∀ q, (s.port q).enSource = true → v.dowser = false → (s.port q).notices.length < 32 →
        .source x ∈ (t.port q).notices))
    ∧ (refused = true → exec (.dowser p [numByte x, 1]) s = .next (s.answered p 0x35 .busy []))
    ∧ Answers (exec (.dowser p [numByte x, 2]) s) (fun t =>
      ButNotices ((s.setSrc x { v with dowser := false }).answered p 0x35 .done []) t
      ∧ ∀ q, (s.port q).enSource = true → v.dowser = true → (s.port q).notices.length < 32 →
        .source x ∈ (t.port q).notices)

/-- HOLD sets and clears the hold; a set hold withdraws a waiting request and leaves a running motor on (R16). -/
def Obligations.HoldSetsAndClears : Prop :=
  ∀ (s : State) (p : Link) (x : Src), s.commands p x →
    Answers (exec (.hold p [numByte x, 1]) s) (fun t =>
      Follows ((s.setSrc x { s.src x with hold := true }).answered p 0x36 .done []) t
      ∧ (s.quietAt x → t.arbiter.asked x = false ∧ t.sources = (s.setSrc x { s.src x with hold := true }).sources))
    ∧ Answers (exec (.hold p [numByte x, 2]) s) (fun t =>
      Follows ((s.setSrc x { s.src x with hold := false }).answered p 0x36 .done []) t)

/-- LOCKOUT SET locks a source that is not live with every output off (R15, R22), and at the I of a cue in ROLLING or READY it
ends the cue MISSED INCOMING_LOST (R127). CLEAR LOCKOUT clears it, in either row's spelling, unless its cause persists: then it is
refused FAULT_PRESENT (R135). That the film and lamp senses are read so at a source of any type is the model's choice (log entry
39). -/
def Obligations.LockoutSetsAndClears : Prop :=
  ∀ (s : State) (p : Link) (x : Src), s.commands p x →
    let v := s.src x
    let persists := v.conds.lampFail = true ∨ (v.lockout = some .filmBreak ∧ v.film = false)
      ∨ (v.lockout = some .lampFail ∧ v.lamp = false)
      ∨ ((v.lockout = some .stall ∨ v.lockout = some .runupTimeout) ∧ 0 < v.rate)
    (s.isLive x = true → exec (.lockout p [numByte x, 1]) s = .next (s.answered p 0x37 .busy []))
    ∧ (s.isLive x = false → Answers (exec (.lockout p [numByte x, 1]) s) (fun t =>
        FaultsFollow (s.answered p 0x37 .done []) t
        ∧ (v.lockout = none → (t.src x).lockout = some .manual ∧ (t.src x).motor = false ∧ (t.src x).inch = false
          ∧ (t.src x).dowser = false ∧ (t.src x).tailStop = none ∧ (s.quietAt x → t.arbiter.asked x = false))
        ∧ (v.lockout ≠ none → (t.src x).lockout = v.lockout)
        ∧ ∀ i c k, s.Carries i c x k → k = .rolling ∨ k = .ready →
          EndsMissed t i c .incomingLost ∧ (s.rundown i = [c.id] → t.eng i = Engine.idle)))
    ∧ (∀ c, c = Instr.clearLockout p (numByte x) ∨ c = .lockout p [numByte x, 2] →
        (persists → exec c s = .next (s.answered p 0x37 .faultPresent []))
        ∧ (¬persists → Answers (exec c s) (fun t =>
          Follows ((s.setSrc x { v with lockout := none }).answered p 0x37 .done []) t)))

/-! ### Reel maps -/

/-- The commands on a reel map (R31 to R34): a segment put in by its tag, dropped by its tag, the map cleared. The other maps
stay, and so does every source record but for its outputs. A segment that would overlap another is refused OVERLAP, one too many
LIST_FULL (R31). Where the map changes, every record with a story spec on the source is resolved afresh, by its state (R35, R38 to
R40); where it does not, no record changes. That a head left unresolved is blocked ENGINE_BUSY (R85) and not UNRESOLVED (R77) while
its engine is SWITCHING or RETURNING is the model's choice (log entry 37). -/
def Obligations.MapCommandsChangeTheMap : Prop :=
  ∀ (s : State) (p : Link) (x : Src), s.commands p x →
    let changed := fun (code : Byte) (t : State) =>
      Follows (({ s with maps := t.maps, cues := t.cues } : State).answered p code .done []) t
      ∧ (∀ y, y ≠ x → t.map y = s.map y) ∧ (t.map x = s.map x → t.cues = s.cues)
      ∧ (t.map x ≠ s.map x → EngineFieldsFit s → RundownsFit s → CuesFitEngines s → Reresolved s t x)
    (∀ (form : Form) (f a b c : Byte) (first tag length : Nat),
      let g : Segment := ⟨tag, first, length⟩
      let command := Instr.setSegment p ([numByte x] ++ wordBytes tag ++ [f, a, b, c] ++ wordBytes length)
      (s.src x).isStill = false → formOf f.toNat = some form →
      posArg form (s.src x).stype.fpf a b c = some (first : Int) → 1 ≤ tag → tag ≤ 4095 → 1 ≤ length → length ≤ 65535 →
      first + length ≤ 131071 →
      ((∃ h ∈ s.map x, h.tag ≠ tag ∧ first < h.first + h.length ∧ h.first < first + length) →
        exec command s = .next (s.answered p 0x20 .overlap []))
      ∧ ((∀ h ∈ s.map x, h.tag ≠ tag → first + length ≤ h.first ∨ h.first + h.length ≤ first) →
        (12 ≤ (s.map x).length → (∀ h ∈ s.map x, h.tag ≠ tag) → exec command s = .next (s.answered p 0x20 .listFull []))
        ∧ ((s.map x).length < 12 ∨ (∃ h ∈ s.map x, h.tag = tag) → MapFits (s.map x) →
          Answers (exec command s) (fun t => changed 0x20 t ∧ (∀ h, h ∈ t.map x ↔ h = g ∨ (h ∈ s.map x ∧ h.tag ≠ tag))
            ∧ MapFits (t.map x)))))
    ∧ (∀ tag, 1 ≤ tag → tag ≤ 4095 →
      ((∃ h ∈ s.map x, h.tag = tag) → Answers (exec (.dropSegment p ([numByte x] ++ wordBytes tag)) s) (fun t =>
        changed 0x21 t ∧ t.map x = (s.map x).filter (fun h => h.tag != tag)))
      ∧ ((∀ h ∈ s.map x, h.tag ≠ tag) →
        exec (.dropSegment p ([numByte x] ++ wordBytes tag)) s = .next (s.answered p 0x21 .noSuch [])))
    ∧ Answers (exec (.clearMap p [numByte x]) s) (fun t => changed 0x22 t ∧ t.map x = [])

/-- The position a spec names, or the first reason it names none (R36): an absolute spec its own position, a story spec by the
cases of the table, within 0 to 131071 on a map that fits. A cue's trigger spec is resolved on its subject's map, its picture spec
on its partner's. -/
def Obligations.StorySpecResolves : Prop :=
  (∀ (m : List Segment) (p : Int), resolveSpec m (.absolute p) = .ok p)
  ∧ (∀ (m : List Segment) (tag offset : Nat) (anchor : Anchor),
    (m = [] → resolveSpec m (.story tag offset anchor) = .error .noMap)
    ∧ (m ≠ [] → (∀ g ∈ m, g.tag ≠ tag) → resolveSpec m (.story tag offset anchor) = .error .noTag)
    ∧ (m.Pairwise (fun g h => g.tag ≠ h.tag) → ∀ g ∈ m, g.tag = tag →
      (g.length < offset → resolveSpec m (.story tag offset anchor) = .error .outOfStory)
      ∧ (offset ≤ g.length →
        resolveSpec m (.story tag offset .atStart) = .ok ((g.first : Int) + offset)
        ∧ resolveSpec m (.story tag offset .atEnd) = .ok ((g.first : Int) + g.length - offset)))
    ∧ (MapFits m → ∀ p, resolveSpec m (.story tag offset anchor) = .ok p → 0 ≤ p ∧ p ≤ 131071))
  ∧ ∀ (s : State) (c : CueRec) (x : Src) (trigger picture : Spec), c.trigger = some trigger → c.partner = some x →
    c.picture = some picture →
    (∀ e, resolveSpec (s.map c.subject) trigger = .error e → (s.resolution c).reason = some e)
    ∧ ∀ t, resolveSpec (s.map c.subject) trigger = .ok t →
      (∀ e, resolveSpec (s.map x) picture = .error e → (s.resolution c).reason = some e)
      ∧ ∀ q, resolveSpec (s.map x) picture = .ok q → (s.resolution c).reason = none ∧ (s.resolution c).q = some q
        ∧ (s.resolution c).t = some (max (-8192) (min 131071 (t + c.trim)))

/-! ### Cues and rundowns -/

/-- A LOAD CUE that passes its checks adds one record, resolved, WAITING, or ARMED for a MARK that can be watched, and answers
its image; nothing else changes but notices (R47, R48, R59). That the image is in the form of the command's own form byte is the
model's choice (log entry 34). -/
def Obligations.LoadCueAddsOneRecord : Prop :=
  ∀ (s : State) (p : Link) (d : List Byte) (form : Form) (id : Nat) (kind : CueKind) (o : Src) (partner : Option Src)
    (c : CueRec),
    s.takes p = true → d.length = 21 → loadNumbers d = some (id, kind, o, partner) →
    (s.src o).configured = true → (∀ x, partner = some x → (s.src x).configured = true) → s.controlsOf p o = true →
    formOf (natAt d 6) = some form → s.loadRecord d form id kind o partner = some c → s.cue id = none →
    s.cues.length < 128 →
    Answers (exec (.loadCue p d) s) (fun t => ∃ r, t.cues = s.cues ++ [r]
      ∧ r.id = wordAt d 0 ∧ r.kind = kind ∧ r.subject = o ∧ r.partner = partner ∧ some r.island = (s.src o).island
      ∧ (r.mode = .position ↔ natAt d 5 = 1) ∧ r.trim = signedAt d 17 ∧ (r.keep = true ↔ natAt d 20 = 1)
      ∧ (kind = .changeover → r.policy = LatePolicy.ofCode (natAt d 18) ∧ r.slipLimit = some (natAt d 19))
      ∧ (kind ≠ .changeover → r.policy = none ∧ r.slipLimit = none)
      ∧ (r.mode = .position → .given r.trigger = specAt form (s.src o).stype.fpf d 7) ∧ (r.mode = .take → r.trigger = none)
      ∧ (∀ x, partner = some x → (s.src x).isFilm = true → .given r.picture = specAt form (s.src x).stype.fpf d 12)
      ∧ ((∀ x, partner = some x → (s.src x).isFilm = false) → r.picture = none)
      ∧ r.resT = (s.resolution c).t ∧ r.resQ = (s.resolution c).q ∧ r.unresolved = (s.resolution c).reason
      ∧ r.state = (if kind = .mark ∧ r.unresolved = none ∧ (s.src o).pos.isSome = true then .armed else .waiting)
      ∧ r.startPoint = none ∧ r.slotRequested = false ∧ r.blocked = none ∧ r.fireO = none ∧ r.fireI = none
      ∧ r.fireErr = none ∧ r.missCause = none
      ∧ ButNotices (({ s with cues := t.cues } : State).answered p 0x10 .done (t.cueImage form r)) t)

/-- An AMEND CUE that passes its checks stores the fields it carries and answers the record's image; a record past ARMED is
PROTECTED (R55, R56). A change of a spec or the trim resolves the record afresh (R38). A MARK whose outcome changes is under watch
exactly when it is resolved and its subject's counter is valid (R39, R59). A WAITING CHANGEOVER or STOP whose outcome changes takes
it, and is judged where it is the head; an ARMED one is disarmed, its request withdrawn, and judged afresh where its outcome, its
late policy or its slip limit changes (R39, R50, R56). Any other record stays as the stored fields leave it, an ARMED one with its
start point and request (R56). That the image is in the form of the command's own form byte (log entry 34), and that ENGINE_BUSY
comes before every other reason while the engine moves the mirror (log entry 37), are the model's choices. -/
def Obligations.AmendCueStoresItsFields : Prop :=
  ∀ (s : State) (p : Link) (d : List Byte) (form : Form) (c new : CueRec), s.commandsCue p c → d.length = 18 →
    wordAt d 0 = c.id →
    (c.state.pastArmed = true → exec (.amendCue p d) s = .next (s.answered p 0x11 .protectedRecord []))
    ∧ (c.state.pastArmed = false → c.carriesAmended d = true → formOf (natAt d 3) = some form →
      s.amendRecord d form c = some new →
      let i := c.island
      let fresh := if new.trigger = c.trigger ∧ new.picture = c.picture ∧ new.trim = c.trim then c.held else s.resolution new
      let policyKept := new.policy = c.policy ∧ new.slipLimit = c.slipLimit
      let judged : CueRec := if c.state = .armed then
          { new.store fresh with state := .waiting, startPoint := none, slotRequested := false, shortLeader := false }
        else new.store fresh
      let freed := if c.state = .armed then s.setEng i Engine.idle else s
      Answers (exec (.amendCue p d) s) (fun t => ∃ r, t.cue c.id = some r
        ∧ Follows (({ s with cues := t.cues } : State).answered p 0x11 .done (t.cueImage form r)) t
        ∧ r.trim = (if (byteAt d 2).getLsbD 2 then signedAt d 14 else c.trim)
        ∧ r.policy = (if (byteAt d 2).getLsbD 3 then LatePolicy.ofCode (natAt d 15) else c.policy)
        ∧ r.slipLimit = (if (byteAt d 2).getLsbD 4 then some (natAt d 16) else c.slipLimit)
        ∧ r.keep = (if (byteAt d 2).getLsbD 5 then decide (natAt d 17 = 1) else c.keep)
        ∧ ((byteAt d 2).getLsbD 0 = true → .given r.trigger = specAt form (s.src c.subject).stype.fpf d 4)
        ∧ ((byteAt d 2).getLsbD 0 = false → r.trigger = c.trigger)
        ∧ ((byteAt d 2).getLsbD 1 = true → .given r.picture = specAt form (s.partnerGauge c) d 9)
        ∧ ((byteAt d 2).getLsbD 1 = false → r.picture = c.picture)
        ∧ r.kind = c.kind ∧ r.subject = c.subject ∧ r.partner = c.partner ∧ r.mode = c.mode ∧ r.island = c.island
        ∧ r.resT = fresh.t ∧ r.resQ = fresh.q ∧ r.unresolved = fresh.reason
        ∧ (c.held = fresh → c.state = .waiting ∨ policyKept → r = new ∧ t.engines = s.engines ∧ t.arbiter = s.arbiter)
        ∧ (c.kind = .mark → c.held ≠ fresh →
          r.state = if fresh.reason = none ∧ (s.src c.subject).pos.isSome = true then .armed else .waiting)
        ∧ (c.kind ≠ .mark → c.held ≠ fresh ∨ (c.state = .armed ∧ ¬policyKept) →
          RundownsFit s → EngineFieldsFit s → CuesFitEngines s →
          (s.head i = some c → HeadJudged freed t judged)
          ∧ (c.state = .armed → r.state = .waiting → ∀ x, c.partner = some x → t.arbiter.asked x = false)
          ∧ (s.placed c = false ∨ (∃ h, s.head i = some h ∧ h.id ≠ c.id ∧ s.headStands i h) → r = judged))
        ∧ ∀ id, id ≠ c.id → (t.cue id).map CueRec.kept = (s.cue id).map CueRec.kept))

/-- RETIRE CUE removes a record and its rundown entry; WITHDRAW CUE takes a record out of its rundown, back to WAITING; CLEAR
RUNDOWN takes out every entry not in flight (R57, R72, R73). A RETIRE CUE that meets the grant which ended its record MISSED LATE is
refused PROTECTED (R66). That the two meet in one tick of the timebase is the model's choice (log entry 35). -/
def Obligations.CuesAreRetiredAndWithdrawn : Prop :=
  (∀ (s : State) (p : Link) (c : CueRec), s.commandsCue p c →
    (c.state = .waiting ∨ (c.state.ended = true ∧ c.meetsGrant s.now = false) → Answers (exec (.retireCue p (wordBytes c.id)) s) (fun t =>
      Follows (s.answered p 0x14 .done []) t ∧ t.cue c.id = none ∧ c.id ∉ t.rundown c.island))
    ∧ (c.state.inFlight = true ∨ c.state = .armed ∨ c.meetsGrant s.now = true →
      exec (.retireCue p (wordBytes c.id)) s = .next (s.answered p 0x14 .protectedRecord []))
    ∧ (s.placed c = true → c.state = .armed ∨ (c.state = .waiting ∧ (s.eng c.island).cue ≠ some c.id) →
      RundownsFit s →
      Answers (exec (.withdrawCue p (wordBytes c.id)) s) (fun t => Follows (s.answered p 0x13 .done []) t
        ∧ c.id ∉ t.rundown c.island ∧ ∃ r, t.cue c.id = some r ∧ r.kept = c.kept ∧ r.state = .waiting
          ∧ r.blocked = none)))
  ∧ ∀ (s : State) (p : Link) (i : Isl), s.commandsIsland p i → RundownsFit s →
    Answers (exec (.clearRundown p [numByte i]) s) (fun t => Follows (s.answered p 0x15 .done []) t
      ∧ List.Sublist (t.rundown i) (s.rundown i)
      ∧ ∀ id ∈ t.rundown i, ∀ c, s.cue id = some c → c.state.inFlight = true)

/-- PLACE CUE puts a WAITING record where it says (R71): the rundown is the old one with the id at that place, unless the
judgement of its head ends the head. A cue that becomes the head is judged at once: MISSED PASSED, or blocked by the first
condition that fails, or armed (R76, R77, R80, R82). Placed at HEAD before an ARMED head it first has that head disarmed, its
request withdrawn and the engine IDLE; before a WAITING head it first takes that head's blocked reason away (R71). That ENGINE_BUSY
comes before every other reason while the engine is SWITCHING or RETURNING (R85), against the order of R77, is the model's choice
(log entry 37). -/
def Obligations.PlaceCueJudgesTheHead : Prop :=
  ∀ (s : State) (p : Link) (c : CueRec) (w : Place) (a b e : Byte), s.commandsCue p c → c.kind ≠ .mark →
    c.state = .waiting → s.placed c = false → (s.rundown c.island).length < 32 → RundownsFit s → EngineFieldsFit s →
    CuesFitEngines s → placeOf (wordBytes c.id ++ [a, b, e]) = some w → w.lacks (s.rundown c.island) = false →
    (w = .head → s.headInFlight c.island = false) →
    let i := c.island
    let freed := fun (h : Option CueRec) => if h.any (fun h => h.state == .armed) then s.setEng i Engine.idle else s
    Answers (exec (.placeCue p (wordBytes c.id ++ [a, b, e])) s) (fun t =>
      Follows (s.answered p 0x12 .done []) t
      ∧ List.Sublist (t.rundown i) (placedIn (s.rundown i) c.id w)
      ∧ (w ≠ .head → ∀ h, s.head i = some h → s.headStands i h →
        t.rundown i = placedIn (s.rundown i) c.id w ∧ t.cue c.id = some c)
      ∧ (w = .head ∨ s.rundown i = [] →
        (s.passed c = true → c.id ∉ t.rundown i ∧ ∃ r, t.cue c.id = some r ∧ r.state = .missed ∧ r.missCause = some .passed)
        ∧ (s.passed c = false →
          t.rundown i = placedIn (s.rundown i) c.id w
          ∧ (∀ why, (freed (s.head i)).blockWaiting i c = some why →
            t.cue c.id = some { c with blocked := some why } ∧ t.eng i = (freed (s.head i)).eng i)
          ∧ ((freed (s.head i)).blockWaiting i c = none →
            (t.eng i).cue = some c.id ∧ ∃ r, t.cue c.id = some r ∧ r.blocked = none
            ∧ ((r.state = .armed ∧ (t.eng i).state = .armed)
              ∨ (r.state = .ready ∧ (t.eng i).state = .ready ∧ c.kind = .changeover)))
          ∧ ∀ h, s.head i = some h →
            (h.state = .waiting → t.cue h.id = some { h with blocked := none })
            ∧ (h.state = .armed → t.cue h.id = some { h with state := .waiting, startPoint := none, slotRequested := false,
                                                             shortLeader := false }
              ∧ ∀ x, h.partner = some x → c.partner ≠ some x → t.arbiter.asked x = false))))

/-- The reason a head is blocked is the first of its arming conditions, in their order, that fails: R77 for a CHANGEOVER, R79 for
a STOP. An ARMED head is judged again by the same tests without the engine's, and with RUNNING and AT_SPEED counted as holding for
a film I; where one fails the cue is disarmed and takes the reason that blocks it as a WAITING head, and where none fails nothing
changes (R81). While the engine is SWITCHING or RETURNING a WAITING head that has not passed is blocked ENGINE_BUSY (R85); that this
wins over the order of R77 and R79 is the model's choice (log entry 37). -/
def Obligations.FirstFailingConditionBlocks : Prop :=
  ∀ (s : State) (i : Isl) (c : CueRec),
    let o := s.src c.subject
    let runs := o.state == .running || o.state == .atSpeed
    let busy : Bool × BlockReason := ((s.eng i).state != .idle, .engineBusy)
    let first := fun (tests : List (Bool × BlockReason)) => (tests.find? (·.1)).map (·.2)
    let changeover := fun (x : Src) (again : Bool) =>
      let v := s.src x
      let ahead := fun (bad : Int → Bool) => v.isFilm && (match v.pos, c.resQ with
        | some at', some q => bad (q - at')
        | _, _ => false)
      let ready := if v.isFilm then v.state == .parked || (again && (v.state == .running || v.state == .atSpeed))
        else v.state == .stillReady
      [(c.unresolved.isSome, BlockReason.unresolved), (s.live i != some c.subject, .outgoingNotLive),
       (c.mode == .position && !(runs && o.pos.isSome), .outgoingNotRunning),
       (!ready, .incomingNotReady), (v.hold, .incomingHeld),
       (v.lockout.isSome, .incomingLockedOut), (ahead (· < 0), .incomingPastStart), (ahead (4800 < ·), .leaderTooLong)]
    let stop : List (Bool × BlockReason) := [(c.mode == .position && c.unresolved.isSome, .unresolved),
       (!runs || (c.mode == .position && o.pos.isNone), .outgoingNotRunning)]
    (∀ x, s.blockChangeover i c x false = first (changeover x false ++ [busy])
      ∧ s.blockChangeover i c x true = first (changeover x true))
    ∧ s.blockStop i c false = first (stop ++ [busy]) ∧ s.blockStop i c true = first stop
    ∧ (s.head i = some c → c.state = .waiting → s.passed c = false →
      ((s.eng i).moving = true → (s.settle i).cue c.id = some { c with blocked := some .engineBusy })
      ∧ ((s.eng i).state = .idle → ∀ why, s.blockOf i c false = some why →
        (s.settle i).cue c.id = some { c with blocked := some why }))
    ∧ (s.head i = some c → c.state = .armed → (s.eng i).state = .armed →
      (s.blockOf i c true = none → s.settle i = s)
      ∧ ((s.blockOf i c true).isSome = true → s.passed c = false →
        (s.settle i).eng i = Engine.idle ∧ (s.settle i).rundown i = s.rundown i
        ∧ ∃ why, (s.setEng i Engine.idle).blockOf i c false = some why
          ∧ (s.settle i).cue c.id = some { c with state := .waiting, startPoint := none, slotRequested := false,
                                                  shortLeader := false, blocked := some why }
          ∧ ∀ x, c.partner = some x → (s.settle i).arbiter.asked x = false))

/-- The preroll's figures (R88 to R90): the leader, the incoming time and the outgoing span as the least whole numbers that
reach their quotients, the window, the start point, and the ranges R89 and R90 give them. -/
def Obligations.PrerollFiguresRoundUp : Prop :=
  ∀ (t q s : Int) (o inc : Source) (margin : Nat), 0 < inc.n →
    let figures := prerollOf t q s o inc margin
    let leader := max inc.travel (q - s).toNat
    let rate := if o.state = .atSpeed then o.rate else o.n
    (figures.short = true ↔ q - s < inc.travel)
    ∧ (∃ ms, figures.window = inc.runUp + ms + margin ∧ (leader - inc.travel) * 100000 ≤ ms * inc.n
        ∧ (∀ m, (leader - inc.travel) * 100000 ≤ m * inc.n → ms ≤ m)
        ∧ (1600 ≤ inc.n → inc.runUp ≤ 15000 → leader ≤ 4800 → ms ≤ 300000 ∧ inc.runUp + ms ≤ 315000
          ∧ (margin ≤ 2000 → figures.window ≤ 317000)))
    ∧ (∃ span : Nat, figures.start = max (-8192) (t - span) ∧ figures.window * rate ≤ span * 100000
        ∧ (∀ m, figures.window * rate ≤ m * 100000 → span ≤ m)
        ∧ (figures.window ≤ 317000 → rate ≤ 6000 → span ≤ 19020)
        ∧ (t ≤ 131071 → -8192 ≤ figures.start ∧ figures.start ≤ 131071)
        ∧ (t - span < -8192 → ∀ p : Int, -8192 ≤ p → figures.start ≤ p))

/-! ### Islands and engines -/

/-- CONFIGURE ISLAND stores its three fields (R111). -/
def Obligations.ConfigureIslandStores : Prop :=
  ∀ (s : State) (p : Link) (i : Isl) (protect : Option Src) (enable : Bool) (margin : Nat), s.commandsIsland p i →
    margin ≤ 2000 →
    (∀ y, protect = some y → (s.src y).configured = true ∧ (s.src y).island = some i) →
    Answers (exec (.configureIsland p ([numByte i, byteOf (numOpt protect), byteOf enable.toNat] ++ wordBytes margin)) s)
      (fun t => Follows ((s.setIsl i { s.isl i with protect := protect, emergEnable := enable,
                                                    margin := margin }).answered p 0x40 .done []) t
        ∧ (s.quiet i → ButNotices ((s.setIsl i { s.isl i with protect := protect, emergEnable := enable,
                                                              margin := margin }).answered p 0x40 .done []) t))

/-- FIRE NOW (R117, R118, R122): refused NOT_ARMED at an IDLE engine and BUSY in a move; a READY cue fires toward its I; an ARMED
STOP turns its subject's motor off and ends DONE. That a fired record holds its fire position of O, recorded at the firing (R52,
R118), while FIRING already is the model's deduction (log entry 36). -/
def Obligations.FireNowFires : Prop :=
  ∀ (s : State) (p : Link) (i : Isl) (c : CueRec), s.commandsIsland p i →
    ((s.eng i).state = .idle → exec (.fireNow p [numByte i]) s = .next (s.answered p 0x41 .notArmed []))
    ∧ ((s.eng i).moving = true → exec (.fireNow p [numByte i]) s = .next (s.answered p 0x41 .busy []))
    ∧ (∀ x k, (s.eng i).state = .ready → (s.eng i).takePending = false → s.current i = some c → s.head i = some c →
      c.kind = .changeover → c.state = .ready → c.partner = some x → (s.src x).inputPos = some k →
      Answers (exec (.fireNow p [numByte i]) s) (fun t => Follows (s.answered p 0x41 .done []) t
        ∧ t.eng i = { s.eng i with state := .switching, switchKind := some .cue, takePending := false,
                                   holdPicture := false, triggerReached := false,
                                   returnPos := (s.src c.subject).inputPos, drive := some k, attempts := some 1,
                                   attemptTimer := some (s.now + 6000) }
        ∧ (∃ r, t.cue c.id = some r ∧ r.state = .firing ∧ r.fireO = (s.src c.subject).pos
          ∧ r.fireI = (if (s.src x).isFilm then (s.src x).pos else none) ∧ r.fireErr = s.fireErrOf c x ∧ r.kept = c.kept)
        ∧ (t.src x).dowser = ((s.src x).dowser || !(s.src x).openBarred)
        ∧ (∀ y, y ≠ x → t.src y = s.src y) ∧ t.rundowns = s.rundowns ∧ t.arbiter = s.arbiter ∧ t.maps = s.maps))
    ∧ ((s.eng i).state = .armed → s.current i = some c → c.kind = .stop → c.state = .armed →
      Answers (exec (.fireNow p [numByte i]) s) (fun t => Follows (s.answered p 0x41 .done []) t
        ∧ (t.src c.subject).motor = false ∧ (c.keep = false → t.cue c.id = none)
        ∧ (c.keep = true → c.island = i → ∃ r, t.cue c.id = some r ∧ r.state = .done
          ∧ r.fireO = (s.src c.subject).pos ∧ c.id ∉ t.rundown i)))

/-- FIRE NOW at an ARMED CHANGEOVER sets take-pending and asks for I's start where that was not done (R117). The head holds its
arming conditions. At a ROLLING one whose parties stand it sets take-pending, clears trigger reached and keeps hold-for-picture, and
the cue waits for READY; where take-pending is set already nothing changes (R117). That an ARMED cue's engine stays ARMED and every
source stays as it is also where a slot is free, with the request only asked for and its grant a step of its own, is the model's
choice (log entry 3), where R102 grants such a request at once. -/
def Obligations.FireNowTakesAnArmedCue : Prop :=
  ∀ (s : State) (p : Link) (i : Isl) (c : CueRec) (x : Src), s.commandsIsland p i → s.current i = some c →
    s.head i = some c → c.kind = .changeover → c.partner = some x →
    let stands := ((s.eng i).state = .armed ∧ c.state = .armed ∧ s.blockOf i c true = none)
      ∨ ((s.eng i).state = .rolling ∧ c.state = .rolling ∧ (s.src x).lostIncoming = false ∧ s.lostOutgoing i c = false
        ∧ (s.src x).state ≠ .atSpeed)
    (stands → (s.eng i).takePending = true → exec (.fireNow p [numByte i]) s = .next (s.answered p 0x41 .done []))
    ∧ (stands → (s.eng i).takePending = false → (s.src x).isFilm = true →
      Answers (exec (.fireNow p [numByte i]) s) (fun t => Follows (s.answered p 0x41 .done []) t
        ∧ t.eng i = { s.eng i with takePending := true, triggerReached := false }
        ∧ t.cue c.id = some (if c.state = .armed then { c with slotRequested := true } else c)
        ∧ (c.state = .armed → c.slotRequested = false → t.arbiter.asked x = true)
        ∧ (c.state = .rolling → t.arbiter = s.arbiter)
        ∧ t.sources = s.sources ∧ t.rundowns = s.rundowns))

/-- ABORT CHANGEOVER ends the current cue MISSED ABORTED, out of its rundown; in ROLLING and READY the motor of I goes off
(R125). ISLAND RESET empties the island of its cues and frees its engine (R128). Both are PROTECTED in a move. -/
def Obligations.AbortAndResetEndTheFlight : Prop :=
  ∀ (s : State) (p : Link) (i : Isl), s.commandsIsland p i →
    ((s.eng i).state = .idle → exec (.abortChangeover p [numByte i]) s = .next (s.answered p 0x42 .notArmed []))
    ∧ ((s.eng i).moving = true → exec (.abortChangeover p [numByte i]) s = .next (s.answered p 0x42 .protectedRecord [])
      ∧ exec (.islandReset p [numByte i]) s = .next (s.answered p 0x44 .protectedRecord []))
    ∧ (∀ c, (s.eng i).carrying = true → s.current i = some c → c.island = i →
      Answers (exec (.abortChangeover p [numByte i]) s) (fun t => Follows (s.answered p 0x42 .done []) t
        ∧ c.id ∉ t.rundown i
        ∧ (∃ r, t.cue c.id = some r ∧ r.state = .missed ∧ r.missCause = some .aborted ∧ r.kept = c.kept)
        ∧ ∀ x, c.partner = some x → (s.eng i).state ≠ .armed → (t.src x).motor = false))
    ∧ ((s.eng i).moving = false → Answers (exec (.islandReset p [numByte i]) s) (fun t =>
        Follows (s.answered p 0x44 .done []) t ∧ t.eng i = Engine.idle ∧ t.rundown i = []
        ∧ t.cues = s.cues.filter (fun c => c.island != i)
        ∧ (∀ c x, s.current i = some c → c.partner = some x → (s.eng i).state = .rolling ∨ (s.eng i).state = .ready →
            (t.src x).motor = false)
        ∧ (∀ j, t.isl j = s.isl j) ∧ ∀ j, j ≠ i → t.rundown j = s.rundown j ∧ t.eng j = s.eng j))

/-- CUT TO drives the mirror of a free engine to the named source and opens its dowser where R14 lets it, and a WAITING head waits as
ENGINE_BUSY (R123). That its frame carries two data bytes, the island and the source, against the row of R172 for 0x43 that gives
one, is the model's deduction (log entry 32); that ENGINE_BUSY is the reason also where an earlier test of R77 fails is its choice
(log entry 37). -/
def Obligations.CutToDrivesTheMirror : Prop :=
  ∀ (s : State) (p : Link) (i : Isl) (x : Src) (k : InPos), s.commandsIsland p i → (s.src x).configured = true →
    (s.src x).island = some i → (s.src x).inputPos = some k → (s.eng i).state = .idle → (s.src x).lockout = none →
    s.live i ≠ some x → (∀ c ∈ s.cues, (s.rundown i).contains c.id = true → c.state = .waiting) →
    Answers (exec (.cutTo p [numByte i, numByte x]) s) (fun t => Follows ((s.setIsl i
          { s.isl i with driftTimer := none, liveNone := false }).answered p 0x43 .done []) t
      ∧ (t.isl i).driftTimer = none
      ∧ t.eng i = { Engine.idle with state := .switching, switchKind := some .cut, returnPos := (s.isl i).sensed,
                                     origin := some (s.live i), drive := some k, attempts := some 1,
                                     attemptTimer := some (s.now + 6000) }
      ∧ (t.src x).dowser = ((s.src x).dowser || !(s.src x).openBarred) ∧ (∀ y, y ≠ x → t.src y = s.src y)
      ∧ (∀ h, s.head i = some h → s.passed h = false → t.cue h.id = some { h with blocked := some .engineBusy })
      ∧ t.arbiter = s.arbiter)

/-! ### Alarms -/

/-- A raise (R137 to R140): a new record at the end of the table, or the record raised again, or the overflow flag where the
table is full. Every raise clears the silence flag, and an URGENT raise rings the bell (R141). -/
def Obligations.RaiseFillsTheTable : Prop :=
  ∀ (s : State) (o : AlarmObj) (c : Cause) (sev : Severity) (pos : Option Int) (cueId : Option Nat),
    let t := s.raise o c sev pos cueId
    t.alarms.silence = false
    ∧ (sev = .urgent → t.alarms.bell = true)
    ∧ (s.alarm o c = none → s.alarms.records.length < 24 → t.alarms.records
        = s.alarms.records ++ [⟨o, c, sev, .raised, 1, pos, cueId⟩] ∧ t.alarms.overflow = s.alarms.overflow)
    ∧ (s.alarm o c = none → 24 ≤ s.alarms.records.length → t.alarms.records = s.alarms.records
        ∧ t.alarms.overflow = true)
    ∧ (∀ r, s.alarm o c = some r → t.alarms.overflow = s.alarms.overflow ∧ ∃ u, t.alarm o c = some u ∧ u.state = .raised
        ∧ u.count = min 99 (r.count + 1) ∧ u.captured = r.captured ∧ (u.severity = .urgent ↔ sev = .urgent ∨ r.severity = .urgent)
        ∧ u.cueId = (if cueId.isSome then cueId else r.cueId))
    ∧ KeptBy id s t ∧ t.engines = s.engines ∧ t.arbiter = s.arbiter ∧ t.rundowns = s.rundowns ∧ t.cues = s.cues

/-- Acknowledgement (R138, R139, R143, R144): an event record is retired; a condition record passes from RAISED to STANDING, is
retired from CLEARED, and stays STANDING. ACKNOWLEDGE ALL takes so every record whose object the link controls, leaves the others,
and clears the overflow flag exactly when it retires a record. -/
def Obligations.AcknowledgementFollowsTheType : Prop :=
  ∀ (s : State) (p : Link), s.takes p = true → (s.alarms.records.map (fun r => (r.object, r.cause))).Nodup →
    (∀ r ∈ s.alarms.records, r.object.admits r.cause = true → s.controlsObj p r.object = true →
      Answers (exec (.acknowledgeAlarm p [byteOf r.object.code, byteOf r.cause.code]) s) (fun t =>
        ButNotices { (s.answered p 0x50 .done []) with alarms := t.alarms } t
        ∧ t.alarms.silence = s.alarms.silence
        ∧ (r.cause.isCondition = false ∨ r.state = .cleared → t.alarm r.object r.cause = none
          ∧ t.alarms.overflow = false)
        ∧ (r.cause.isCondition = true → r.state ≠ .cleared →
          t.alarm r.object r.cause = some { r with state := .standing } ∧ t.alarms.overflow = s.alarms.overflow)
        ∧ ∀ o c, (o, c) ≠ (r.object, r.cause) → t.alarm o c = s.alarm o c))
    ∧ Answers (exec (.acknowledgeAll p []) s) (fun t =>
        ButNotices { (s.answered p 0x51 .done []) with alarms := t.alarms } t
        ∧ t.alarms.silence = s.alarms.silence
        ∧ (∀ r, s.controlsObj p r.object = false → (r ∈ t.alarms.records ↔ r ∈ s.alarms.records))
        ∧ (∀ r ∈ s.alarms.records, s.controlsObj p r.object = true →
          (r.cause.isCondition = true → r.state ≠ .cleared →
            t.alarm r.object r.cause = some { r with state := .standing })
          ∧ (r.cause.isCondition = false ∨ r.state = .cleared → t.alarm r.object r.cause = none))
        ∧ (∀ r ∈ t.alarms.records, s.controlsObj p r.object = true → r.cause.isCondition = true ∧ r.state = .standing)
        ∧ t.alarms.overflow = (if ∃ r ∈ s.alarms.records, s.controlsObj p r.object = true
            ∧ (r.cause.isCondition = false ∨ r.state = .cleared) then false else s.alarms.overflow))

/-- SILENCE BELL sets the silence flag and answers DONE: the bell goes off, the records and the lamp stay, and the next raise, of
either severity, clears the flag (R142). -/
def Obligations.SilenceBellUntilTheNextRaise : Prop :=
  ∀ (s : State) (p : Link), s.takes p = true →
    exec (.silenceBell p []) s
      = .next (({ s with alarms := { s.alarms with silence := true } } : State).answered p 0x52 .done [])
    ∧ Answers (exec (.silenceBell p []) s) (fun t => t.alarms.bell = false ∧ t.alarms.lamp = s.alarms.lamp
      ∧ ∀ o c sev pos cueId, (t.raise o c sev pos cueId).alarms.silence = false
        ∧ ((∃ r ∈ t.alarms.records, r.severity = .urgent ∧ r.unseen = true) →
          (t.raise o c sev pos cueId).alarms.bell = true))

/-! ### Control -/

/-- GIVE CONTROL (R153), TAKE CONTROL (R154) and SEIZE CONTROL (R155): their checks in order, the move of control with its ISLAND
notice, and nothing else. -/
def Obligations.ControlIsGivenTakenAndSeized : Prop :=
  ∀ (s : State) (p : Link) (b : Byte), s.takes p = true →
    let moved := fun (i : Isl) (q : Link) (code : Byte) (t : State) =>
      ButNotices ((s.setIsl i { s.isl i with control := q }).answered p code .done []) t
      ∧ ((s.isl i).control ≠ q → ∀ l, (s.port l).enIsland = true → (s.port l).notices.length < 32 →
        .island i ∈ (t.port l).notices)
    (islOf b.toNat = none → exec (.giveControl p [b]) s = .next (s.answered p 0x60 .badValue [])
      ∧ exec (.takeControl p [b]) s = .next (s.answered p 0x61 .badValue [])
      ∧ exec (.seizeControl p [b]) s = .next (s.answered p 0x62 .badValue []))
    ∧ ∀ i : Isl,
      ((s.isl i).control ≠ p → exec (.giveControl p [numByte i]) s = .next (s.answered p 0x60 .notInControl []))
      ∧ ((s.isl i).control = p → Answers (exec (.giveControl p [numByte i]) s) (moved i p.other 0x60))
      ∧ ((s.isl i).control = p → exec (.takeControl p [numByte i]) s = .next (s.answered p 0x61 .done []))
      ∧ ((s.isl i).control ≠ p → (s.eng i).state ≠ .idle → (s.eng i).state ≠ .armed →
        exec (.takeControl p [numByte i]) s = .next (s.answered p 0x61 .busy []))
      ∧ ((s.isl i).control ≠ p → (s.eng i).state = .idle ∨ (s.eng i).state = .armed →
        Answers (exec (.takeControl p [numByte i]) s) (moved i p 0x61))
      ∧ (p ≠ s.primaryLink → exec (.seizeControl p [numByte i]) s = .next (s.answered p 0x62 .notPrimary []))
      ∧ (p = s.primaryLink → Answers (exec (.seizeControl p [numByte i]) s) (moved i p 0x62))
      ∧ (p = s.primaryLink → (s.isl i).control = p →
        exec (.seizeControl p [numByte i]) s = .next (s.answered p 0x62 .done []))

/-! ### Reads and notices -/

/-- The reads of records answer their images, refuse BAD_VALUE a source, island or cue id out of its range, a bad form byte and a
start index out of its range, refuse NO_SUCH an id with no record (R62, R69, R108, R145, R165), and change nothing but the port.
The images of a cue, a cue's specs, a source, an island and the part's status are laid out field by field as R173 gives them, and
the others have the sizes it gives; the fire position of O is shown of an ended record alone (R42). That the direction bit of the
sense byte is the level of the last pulse (log entry 42), that the bytes after kind byte 0 are zeros (log entry 41), and that bits
which no layout lists are 0 and the lamp of READ ALARMS is coded as in the part status image (log entry 46) are the model's
choices. -/
def Obligations.ReadsAnswerAndChangeNothing : Prop :=
  ∀ (s : State) (p : Link), s.takes p = true →
    (∀ (x : Src) (form : Form) (f : Byte), formOf f.toNat = some form →
      exec (.readSource p [numByte x, f]) s = .next (s.answered p 0x02 .done (s.sourceImage form x)))
    ∧ (∀ i : Isl, exec (.readIsland p [numByte i]) s = .next (s.answered p 0x03 .done (s.islandImage i)))
    ∧ (∀ a f : Byte, a.toNat = 0 ∨ 8 < a.toNat ∨ 1 < f.toNat →
      exec (.readSource p [a, f]) s = .next (s.answered p 0x02 .badValue []))
    ∧ (∀ a b : Byte, a.toNat = 0 ∨ 4 < a.toNat →
      exec (.readIsland p [a]) s = .next (s.answered p 0x03 .badValue [])
      ∧ exec (.readRundown p [a, b]) s = .next (s.answered p 0x06 .badValue []))
    ∧ (∀ a b : Byte, a.toNat = 0 ∨ 8 < a.toNat → exec (.readMap p [a, b]) s = .next (s.answered p 0x07 .badValue []))
    ∧ (∀ a b f : Byte, 256 * a.toNat + b.toNat = 0 ∨ 999 < 256 * a.toNat + b.toNat ∨ 1 < f.toNat →
      exec (.readCue p [a, b, f]) s = .next (s.answered p 0x04 .badValue [])
      ∧ exec (.readCueSpec p [a, b, f]) s = .next (s.answered p 0x05 .badValue []))
    ∧ (∀ (id : Nat) (form : Form) (f : Byte), formOf f.toNat = some form → 1 ≤ id → id ≤ 999 →
      (∀ c, s.cue id = some c →
        exec (.readCue p (wordBytes id ++ [f])) s = .next (s.answered p 0x04 .done (s.cueImage form c))
        ∧ exec (.readCueSpec p (wordBytes id ++ [f])) s = .next (s.answered p 0x05 .done (s.cueSpecImage form c)))
      ∧ (s.cue id = none →
        exec (.readCue p (wordBytes id ++ [f])) s = .next (s.answered p 0x04 .noSuch [])
        ∧ exec (.readCueSpec p (wordBytes id ++ [f])) s = .next (s.answered p 0x05 .noSuch [])))
    ∧ (∀ (i : Isl) (b : Byte), (31 < b.toNat → exec (.readRundown p [numByte i, b]) s
          = .next (s.answered p 0x06 .badValue []))
      ∧ (b.toNat ≤ 31 → exec (.readRundown p [numByte i, b]) s = .next (s.answered p 0x06 .done
          ([byteOf (s.rundown i).length, b] ++ packIds (((s.rundown i).drop b.toNat).take 16)))))
    ∧ (∀ (x : Src) (b : Byte), (11 < b.toNat → exec (.readMap p [numByte x, b]) s
          = .next (s.answered p 0x07 .badValue []))
      ∧ (b.toNat ≤ 11 → exec (.readMap p [numByte x, b]) s = .next (s.answered p 0x07 .done
          ([byteOf (s.map x).length, b] ++ (((s.map x).drop b.toNat).take 4).flatMap Segment.image))))
    ∧ (∀ b : Byte, (23 < b.toNat → exec (.readAlarms p [b]) s = .next (s.answered p 0x08 .badValue []))
      ∧ (b.toNat ≤ 23 → exec (.readAlarms p [b]) s = .next (s.answered p 0x08 .done
          ([byteOf s.alarms.records.length, byteOf (flagBit s.alarms.overflow 0 + flagBit s.alarms.bell 1
            + 4 * s.alarms.lamp.code), b] ++ ((s.alarms.records.drop b.toNat).take 3).flatMap AlarmRec.image))))
    ∧ (∀ form c, c.id ≤ 999 → s.CueImageShows form c (s.cueImage form c))
    ∧ (∀ form c, s.CueSpecImageShows form c (s.cueSpecImage form c))
    ∧ (∀ form x, s.SourceImageShows form x (s.sourceImage form x)) ∧ (∀ i, s.IslandImageShows i (s.islandImage i))
    ∧ s.StatusImageShows p (s.statusImage p) ∧ (∀ g : Segment, g.image.length = 7) ∧ (∀ r : AlarmRec, r.image.length = 9)
    ∧ (∀ m : Notice, m.image.length = 3)
    ∧ ∀ ids : List Nat, (packIds ids).length = (10 * ids.length + 7) / 8

/-- READ PART STATUS clears its own port's restart flag alone (R164); READ NOTICES removes up to 8 entries from the front, and
the overflow flag with the last (R167); NOTICE ENABLES stores the four flags of its port (R168). That the overflow flag is sent as a
byte of 0 clear and 1 set is the model's choice (log entry 46). -/
def Obligations.PortReadsActOnTheirPort : Prop :=
  ∀ (s : State) (p : Link), s.takes p = true →
    let q := s.port p
    exec (.readPartStatus p []) s
      = .next ((s.setPort p { q with restart := false }).answered p 0x01 .done (s.statusImage p))
    ∧ exec (.readNotices p []) s = .next ((s.setPort p
        { q with notices := q.notices.drop 8,
                 overflow := q.overflow && decide (8 < q.notices.length) }).answered p 0x09 .done
        ([byteOf (min 8 q.notices.length), byteOf (q.notices.length - 8), byteOf q.overflow.toNat]
          ++ (q.notices.take 8).flatMap Notice.image))
    ∧ ∀ b : Byte,
      (15 < b.toNat → exec (.noticeEnables p [b]) s = .next (s.answered p 0x70 .badValue []))
      ∧ (b.toNat ≤ 15 → exec (.noticeEnables p [b]) s = .next ((s.setPort p
        { q with enCue := b.getLsbD 0, enSource := b.getLsbD 1, enIsland := b.getLsbD 2,
                 enAlarm := b.getLsbD 3 }).answered p 0x70 .done [b]))

/-- A port takes a notice (R166): dropped by its enable, kept in place where it stands already, lost to a full set with the
overflow flag, or added at the end. The attention line follows (R169). -/
def Obligations.NoticesAreCoalescedAndBounded : Prop :=
  ∀ (s : State) (m : Notice) (p : Link),
    let q := s.port p
    let t := (s.post m).port p
    (q.admits m = false ∨ m ∈ q.notices → t = q)
    ∧ (q.admits m = true → m ∉ q.notices → 32 ≤ q.notices.length → t = { q with overflow := true } ∧ t.attention = true)
    ∧ (q.admits m = true → m ∉ q.notices → q.notices.length < 32 →
        t = { q with notices := q.notices ++ [m] } ∧ t.attention = true)
    ∧ (q.noticesFit → t.noticesFit)
end

