-- ==== Sys2Proof/Laws/State.lean ====
section
/-! SUPPORT. One lemma for each field and each plain update of the state, true by unfolding, so that no later proof unfolds a
record update; then what an update does to its own part. -/

namespace Sys2Proof.Machine

/-! ### setSrc -/

@[simp] theorem State.setSrc_maps (s : State) (x : Src) (v : Source) : (s.setSrc x v).maps = s.maps := rfl
@[simp] theorem State.setSrc_cues (s : State) (x : Src) (v : Source) : (s.setSrc x v).cues = s.cues := rfl
@[simp] theorem State.setSrc_rundowns (s : State) (x : Src) (v : Source) : (s.setSrc x v).rundowns = s.rundowns := rfl
@[simp] theorem State.setSrc_arbiter (s : State) (x : Src) (v : Source) : (s.setSrc x v).arbiter = s.arbiter := rfl
@[simp] theorem State.setSrc_islands (s : State) (x : Src) (v : Source) : (s.setSrc x v).islands = s.islands := rfl
@[simp] theorem State.setSrc_engines (s : State) (x : Src) (v : Source) : (s.setSrc x v).engines = s.engines := rfl
@[simp] theorem State.setSrc_alarms (s : State) (x : Src) (v : Source) : (s.setSrc x v).alarms = s.alarms := rfl
@[simp] theorem State.setSrc_desk (s : State) (x : Src) (v : Source) : (s.setSrc x v).desk = s.desk := rfl
@[simp] theorem State.setSrc_panel (s : State) (x : Src) (v : Source) : (s.setSrc x v).panel = s.panel := rfl
@[simp] theorem State.setSrc_unitAddress (s : State) (x : Src) (v : Source) : (s.setSrc x v).unitAddress = s.unitAddress := rfl
@[simp] theorem State.setSrc_primaryLink (s : State) (x : Src) (v : Source) : (s.setSrc x v).primaryLink = s.primaryLink := rfl
@[simp] theorem State.setSrc_strapAddress (s : State) (x : Src) (v : Source) : (s.setSrc x v).strapAddress = s.strapAddress := rfl
@[simp] theorem State.setSrc_strapPrimary (s : State) (x : Src) (v : Source) : (s.setSrc x v).strapPrimary = s.strapPrimary := rfl
@[simp] theorem State.setSrc_resetAsserted (s : State) (x : Src) (v : Source) : (s.setSrc x v).resetAsserted = s.resetAsserted := rfl
@[simp] theorem State.setSrc_now (s : State) (x : Src) (v : Source) : (s.setSrc x v).now = s.now := rfl
@[simp] theorem State.setSrc_pending (s : State) (x : Src) (v : Source) : (s.setSrc x v).pending = s.pending := rfl
@[simp] theorem State.setSrc_map (s : State) (x : Src) (v : Source) (y : Src) : (s.setSrc x v).map y = s.map y := rfl
@[simp] theorem State.setSrc_rundown (s : State) (x : Src) (v : Source) (j : Isl) : (s.setSrc x v).rundown j = s.rundown j := rfl
@[simp] theorem State.setSrc_isl (s : State) (x : Src) (v : Source) (j : Isl) : (s.setSrc x v).isl j = s.isl j := rfl
@[simp] theorem State.setSrc_eng (s : State) (x : Src) (v : Source) (j : Isl) : (s.setSrc x v).eng j = s.eng j := rfl
@[simp] theorem State.setSrc_cue (s : State) (x : Src) (v : Source) (k : Nat) : (s.setSrc x v).cue k = s.cue k := rfl
@[simp] theorem State.setSrc_port (s : State) (x : Src) (v : Source) (p : Link) : (s.setSrc x v).port p = s.port p := by cases p <;> rfl

/-! ### setMap -/

@[simp] theorem State.setMap_sources (s : State) (x : Src) (v : List Segment) : (s.setMap x v).sources = s.sources := rfl
@[simp] theorem State.setMap_cues (s : State) (x : Src) (v : List Segment) : (s.setMap x v).cues = s.cues := rfl
@[simp] theorem State.setMap_rundowns (s : State) (x : Src) (v : List Segment) : (s.setMap x v).rundowns = s.rundowns := rfl
@[simp] theorem State.setMap_arbiter (s : State) (x : Src) (v : List Segment) : (s.setMap x v).arbiter = s.arbiter := rfl
@[simp] theorem State.setMap_islands (s : State) (x : Src) (v : List Segment) : (s.setMap x v).islands = s.islands := rfl
@[simp] theorem State.setMap_engines (s : State) (x : Src) (v : List Segment) : (s.setMap x v).engines = s.engines := rfl
@[simp] theorem State.setMap_alarms (s : State) (x : Src) (v : List Segment) : (s.setMap x v).alarms = s.alarms := rfl
@[simp] theorem State.setMap_desk (s : State) (x : Src) (v : List Segment) : (s.setMap x v).desk = s.desk := rfl
@[simp] theorem State.setMap_panel (s : State) (x : Src) (v : List Segment) : (s.setMap x v).panel = s.panel := rfl
@[simp] theorem State.setMap_unitAddress (s : State) (x : Src) (v : List Segment) : (s.setMap x v).unitAddress = s.unitAddress := rfl
@[simp] theorem State.setMap_primaryLink (s : State) (x : Src) (v : List Segment) : (s.setMap x v).primaryLink = s.primaryLink := rfl
@[simp] theorem State.setMap_strapAddress (s : State) (x : Src) (v : List Segment) : (s.setMap x v).strapAddress = s.strapAddress := rfl
@[simp] theorem State.setMap_strapPrimary (s : State) (x : Src) (v : List Segment) : (s.setMap x v).strapPrimary = s.strapPrimary := rfl
@[simp] theorem State.setMap_resetAsserted (s : State) (x : Src) (v : List Segment) : (s.setMap x v).resetAsserted = s.resetAsserted := rfl
@[simp] theorem State.setMap_now (s : State) (x : Src) (v : List Segment) : (s.setMap x v).now = s.now := rfl
@[simp] theorem State.setMap_pending (s : State) (x : Src) (v : List Segment) : (s.setMap x v).pending = s.pending := rfl
@[simp] theorem State.setMap_src (s : State) (x : Src) (v : List Segment) (y : Src) : (s.setMap x v).src y = s.src y := rfl
@[simp] theorem State.setMap_rundown (s : State) (x : Src) (v : List Segment) (j : Isl) : (s.setMap x v).rundown j = s.rundown j := rfl
@[simp] theorem State.setMap_isl (s : State) (x : Src) (v : List Segment) (j : Isl) : (s.setMap x v).isl j = s.isl j := rfl
@[simp] theorem State.setMap_eng (s : State) (x : Src) (v : List Segment) (j : Isl) : (s.setMap x v).eng j = s.eng j := rfl
@[simp] theorem State.setMap_cue (s : State) (x : Src) (v : List Segment) (k : Nat) : (s.setMap x v).cue k = s.cue k := rfl
@[simp] theorem State.setMap_port (s : State) (x : Src) (v : List Segment) (p : Link) : (s.setMap x v).port p = s.port p := by cases p <;> rfl

/-! ### setRundown -/

@[simp] theorem State.setRundown_sources (s : State) (i : Isl) (v : List Nat) : (s.setRundown i v).sources = s.sources := rfl
@[simp] theorem State.setRundown_maps (s : State) (i : Isl) (v : List Nat) : (s.setRundown i v).maps = s.maps := rfl
@[simp] theorem State.setRundown_cues (s : State) (i : Isl) (v : List Nat) : (s.setRundown i v).cues = s.cues := rfl
@[simp] theorem State.setRundown_arbiter (s : State) (i : Isl) (v : List Nat) : (s.setRundown i v).arbiter = s.arbiter := rfl
@[simp] theorem State.setRundown_islands (s : State) (i : Isl) (v : List Nat) : (s.setRundown i v).islands = s.islands := rfl
@[simp] theorem State.setRundown_engines (s : State) (i : Isl) (v : List Nat) : (s.setRundown i v).engines = s.engines := rfl
@[simp] theorem State.setRundown_alarms (s : State) (i : Isl) (v : List Nat) : (s.setRundown i v).alarms = s.alarms := rfl
@[simp] theorem State.setRundown_desk (s : State) (i : Isl) (v : List Nat) : (s.setRundown i v).desk = s.desk := rfl
@[simp] theorem State.setRundown_panel (s : State) (i : Isl) (v : List Nat) : (s.setRundown i v).panel = s.panel := rfl
@[simp] theorem State.setRundown_unitAddress (s : State) (i : Isl) (v : List Nat) : (s.setRundown i v).unitAddress = s.unitAddress := rfl
@[simp] theorem State.setRundown_primaryLink (s : State) (i : Isl) (v : List Nat) : (s.setRundown i v).primaryLink = s.primaryLink := rfl
@[simp] theorem State.setRundown_strapAddress (s : State) (i : Isl) (v : List Nat) : (s.setRundown i v).strapAddress = s.strapAddress := rfl
@[simp] theorem State.setRundown_strapPrimary (s : State) (i : Isl) (v : List Nat) : (s.setRundown i v).strapPrimary = s.strapPrimary := rfl
@[simp] theorem State.setRundown_resetAsserted (s : State) (i : Isl) (v : List Nat) : (s.setRundown i v).resetAsserted = s.resetAsserted := rfl
@[simp] theorem State.setRundown_now (s : State) (i : Isl) (v : List Nat) : (s.setRundown i v).now = s.now := rfl
@[simp] theorem State.setRundown_pending (s : State) (i : Isl) (v : List Nat) : (s.setRundown i v).pending = s.pending := rfl
@[simp] theorem State.setRundown_src (s : State) (i : Isl) (v : List Nat) (y : Src) : (s.setRundown i v).src y = s.src y := rfl
@[simp] theorem State.setRundown_map (s : State) (i : Isl) (v : List Nat) (y : Src) : (s.setRundown i v).map y = s.map y := rfl
@[simp] theorem State.setRundown_isl (s : State) (i : Isl) (v : List Nat) (j : Isl) : (s.setRundown i v).isl j = s.isl j := rfl
@[simp] theorem State.setRundown_eng (s : State) (i : Isl) (v : List Nat) (j : Isl) : (s.setRundown i v).eng j = s.eng j := rfl
@[simp] theorem State.setRundown_cue (s : State) (i : Isl) (v : List Nat) (k : Nat) : (s.setRundown i v).cue k = s.cue k := rfl
@[simp] theorem State.setRundown_port (s : State) (i : Isl) (v : List Nat) (p : Link) : (s.setRundown i v).port p = s.port p := by cases p <;> rfl

/-! ### setIsl -/

@[simp] theorem State.setIsl_sources (s : State) (i : Isl) (v : Island) : (s.setIsl i v).sources = s.sources := rfl
@[simp] theorem State.setIsl_maps (s : State) (i : Isl) (v : Island) : (s.setIsl i v).maps = s.maps := rfl
@[simp] theorem State.setIsl_cues (s : State) (i : Isl) (v : Island) : (s.setIsl i v).cues = s.cues := rfl
@[simp] theorem State.setIsl_rundowns (s : State) (i : Isl) (v : Island) : (s.setIsl i v).rundowns = s.rundowns := rfl
@[simp] theorem State.setIsl_arbiter (s : State) (i : Isl) (v : Island) : (s.setIsl i v).arbiter = s.arbiter := rfl
@[simp] theorem State.setIsl_engines (s : State) (i : Isl) (v : Island) : (s.setIsl i v).engines = s.engines := rfl
@[simp] theorem State.setIsl_alarms (s : State) (i : Isl) (v : Island) : (s.setIsl i v).alarms = s.alarms := rfl
@[simp] theorem State.setIsl_desk (s : State) (i : Isl) (v : Island) : (s.setIsl i v).desk = s.desk := rfl
@[simp] theorem State.setIsl_panel (s : State) (i : Isl) (v : Island) : (s.setIsl i v).panel = s.panel := rfl
@[simp] theorem State.setIsl_unitAddress (s : State) (i : Isl) (v : Island) : (s.setIsl i v).unitAddress = s.unitAddress := rfl
@[simp] theorem State.setIsl_primaryLink (s : State) (i : Isl) (v : Island) : (s.setIsl i v).primaryLink = s.primaryLink := rfl
@[simp] theorem State.setIsl_strapAddress (s : State) (i : Isl) (v : Island) : (s.setIsl i v).strapAddress = s.strapAddress := rfl
@[simp] theorem State.setIsl_strapPrimary (s : State) (i : Isl) (v : Island) : (s.setIsl i v).strapPrimary = s.strapPrimary := rfl
@[simp] theorem State.setIsl_resetAsserted (s : State) (i : Isl) (v : Island) : (s.setIsl i v).resetAsserted = s.resetAsserted := rfl
@[simp] theorem State.setIsl_now (s : State) (i : Isl) (v : Island) : (s.setIsl i v).now = s.now := rfl
@[simp] theorem State.setIsl_pending (s : State) (i : Isl) (v : Island) : (s.setIsl i v).pending = s.pending := rfl
@[simp] theorem State.setIsl_src (s : State) (i : Isl) (v : Island) (y : Src) : (s.setIsl i v).src y = s.src y := rfl
@[simp] theorem State.setIsl_map (s : State) (i : Isl) (v : Island) (y : Src) : (s.setIsl i v).map y = s.map y := rfl
@[simp] theorem State.setIsl_rundown (s : State) (i : Isl) (v : Island) (j : Isl) : (s.setIsl i v).rundown j = s.rundown j := rfl
@[simp] theorem State.setIsl_eng (s : State) (i : Isl) (v : Island) (j : Isl) : (s.setIsl i v).eng j = s.eng j := rfl
@[simp] theorem State.setIsl_cue (s : State) (i : Isl) (v : Island) (k : Nat) : (s.setIsl i v).cue k = s.cue k := rfl
@[simp] theorem State.setIsl_port (s : State) (i : Isl) (v : Island) (p : Link) : (s.setIsl i v).port p = s.port p := by cases p <;> rfl

/-! ### setEng -/

@[simp] theorem State.setEng_sources (s : State) (i : Isl) (v : Engine) : (s.setEng i v).sources = s.sources := rfl
@[simp] theorem State.setEng_maps (s : State) (i : Isl) (v : Engine) : (s.setEng i v).maps = s.maps := rfl
@[simp] theorem State.setEng_cues (s : State) (i : Isl) (v : Engine) : (s.setEng i v).cues = s.cues := rfl
@[simp] theorem State.setEng_rundowns (s : State) (i : Isl) (v : Engine) : (s.setEng i v).rundowns = s.rundowns := rfl
@[simp] theorem State.setEng_arbiter (s : State) (i : Isl) (v : Engine) : (s.setEng i v).arbiter = s.arbiter := rfl
@[simp] theorem State.setEng_islands (s : State) (i : Isl) (v : Engine) : (s.setEng i v).islands = s.islands := rfl
@[simp] theorem State.setEng_alarms (s : State) (i : Isl) (v : Engine) : (s.setEng i v).alarms = s.alarms := rfl
@[simp] theorem State.setEng_desk (s : State) (i : Isl) (v : Engine) : (s.setEng i v).desk = s.desk := rfl
@[simp] theorem State.setEng_panel (s : State) (i : Isl) (v : Engine) : (s.setEng i v).panel = s.panel := rfl
@[simp] theorem State.setEng_unitAddress (s : State) (i : Isl) (v : Engine) : (s.setEng i v).unitAddress = s.unitAddress := rfl
@[simp] theorem State.setEng_primaryLink (s : State) (i : Isl) (v : Engine) : (s.setEng i v).primaryLink = s.primaryLink := rfl
@[simp] theorem State.setEng_strapAddress (s : State) (i : Isl) (v : Engine) : (s.setEng i v).strapAddress = s.strapAddress := rfl
@[simp] theorem State.setEng_strapPrimary (s : State) (i : Isl) (v : Engine) : (s.setEng i v).strapPrimary = s.strapPrimary := rfl
@[simp] theorem State.setEng_resetAsserted (s : State) (i : Isl) (v : Engine) : (s.setEng i v).resetAsserted = s.resetAsserted := rfl
@[simp] theorem State.setEng_now (s : State) (i : Isl) (v : Engine) : (s.setEng i v).now = s.now := rfl
@[simp] theorem State.setEng_pending (s : State) (i : Isl) (v : Engine) : (s.setEng i v).pending = s.pending := rfl
@[simp] theorem State.setEng_src (s : State) (i : Isl) (v : Engine) (y : Src) : (s.setEng i v).src y = s.src y := rfl
@[simp] theorem State.setEng_map (s : State) (i : Isl) (v : Engine) (y : Src) : (s.setEng i v).map y = s.map y := rfl
@[simp] theorem State.setEng_rundown (s : State) (i : Isl) (v : Engine) (j : Isl) : (s.setEng i v).rundown j = s.rundown j := rfl
@[simp] theorem State.setEng_isl (s : State) (i : Isl) (v : Engine) (j : Isl) : (s.setEng i v).isl j = s.isl j := rfl
@[simp] theorem State.setEng_cue (s : State) (i : Isl) (v : Engine) (k : Nat) : (s.setEng i v).cue k = s.cue k := rfl
@[simp] theorem State.setEng_port (s : State) (i : Isl) (v : Engine) (p : Link) : (s.setEng i v).port p = s.port p := by cases p <;> rfl

/-! ### setCue -/

@[simp] theorem State.setCue_sources (s : State) (id : Nat) (f : CueRec → CueRec) : (s.setCue id f).sources = s.sources := rfl
@[simp] theorem State.setCue_maps (s : State) (id : Nat) (f : CueRec → CueRec) : (s.setCue id f).maps = s.maps := rfl
@[simp] theorem State.setCue_rundowns (s : State) (id : Nat) (f : CueRec → CueRec) : (s.setCue id f).rundowns = s.rundowns := rfl
@[simp] theorem State.setCue_arbiter (s : State) (id : Nat) (f : CueRec → CueRec) : (s.setCue id f).arbiter = s.arbiter := rfl
@[simp] theorem State.setCue_islands (s : State) (id : Nat) (f : CueRec → CueRec) : (s.setCue id f).islands = s.islands := rfl
@[simp] theorem State.setCue_engines (s : State) (id : Nat) (f : CueRec → CueRec) : (s.setCue id f).engines = s.engines := rfl
@[simp] theorem State.setCue_alarms (s : State) (id : Nat) (f : CueRec → CueRec) : (s.setCue id f).alarms = s.alarms := rfl
@[simp] theorem State.setCue_desk (s : State) (id : Nat) (f : CueRec → CueRec) : (s.setCue id f).desk = s.desk := rfl
@[simp] theorem State.setCue_panel (s : State) (id : Nat) (f : CueRec → CueRec) : (s.setCue id f).panel = s.panel := rfl
@[simp] theorem State.setCue_unitAddress (s : State) (id : Nat) (f : CueRec → CueRec) : (s.setCue id f).unitAddress = s.unitAddress := rfl
@[simp] theorem State.setCue_primaryLink (s : State) (id : Nat) (f : CueRec → CueRec) : (s.setCue id f).primaryLink = s.primaryLink := rfl
@[simp] theorem State.setCue_strapAddress (s : State) (id : Nat) (f : CueRec → CueRec) : (s.setCue id f).strapAddress = s.strapAddress := rfl
@[simp] theorem State.setCue_strapPrimary (s : State) (id : Nat) (f : CueRec → CueRec) : (s.setCue id f).strapPrimary = s.strapPrimary := rfl
@[simp] theorem State.setCue_resetAsserted (s : State) (id : Nat) (f : CueRec → CueRec) : (s.setCue id f).resetAsserted = s.resetAsserted := rfl
@[simp] theorem State.setCue_now (s : State) (id : Nat) (f : CueRec → CueRec) : (s.setCue id f).now = s.now := rfl
@[simp] theorem State.setCue_pending (s : State) (id : Nat) (f : CueRec → CueRec) : (s.setCue id f).pending = s.pending := rfl
@[simp] theorem State.setCue_src (s : State) (id : Nat) (f : CueRec → CueRec) (y : Src) : (s.setCue id f).src y = s.src y := rfl
@[simp] theorem State.setCue_map (s : State) (id : Nat) (f : CueRec → CueRec) (y : Src) : (s.setCue id f).map y = s.map y := rfl
@[simp] theorem State.setCue_rundown (s : State) (id : Nat) (f : CueRec → CueRec) (j : Isl) : (s.setCue id f).rundown j = s.rundown j := rfl
@[simp] theorem State.setCue_isl (s : State) (id : Nat) (f : CueRec → CueRec) (j : Isl) : (s.setCue id f).isl j = s.isl j := rfl
@[simp] theorem State.setCue_eng (s : State) (id : Nat) (f : CueRec → CueRec) (j : Isl) : (s.setCue id f).eng j = s.eng j := rfl
@[simp] theorem State.setCue_port (s : State) (id : Nat) (f : CueRec → CueRec) (p : Link) : (s.setCue id f).port p = s.port p := by cases p <;> rfl

/-! ### removeCue -/

@[simp] theorem State.removeCue_sources (s : State) (id : Nat) : (s.removeCue id).sources = s.sources := rfl
@[simp] theorem State.removeCue_maps (s : State) (id : Nat) : (s.removeCue id).maps = s.maps := rfl
@[simp] theorem State.removeCue_rundowns (s : State) (id : Nat) : (s.removeCue id).rundowns = s.rundowns := rfl
@[simp] theorem State.removeCue_arbiter (s : State) (id : Nat) : (s.removeCue id).arbiter = s.arbiter := rfl
@[simp] theorem State.removeCue_islands (s : State) (id : Nat) : (s.removeCue id).islands = s.islands := rfl
@[simp] theorem State.removeCue_engines (s : State) (id : Nat) : (s.removeCue id).engines = s.engines := rfl
@[simp] theorem State.removeCue_alarms (s : State) (id : Nat) : (s.removeCue id).alarms = s.alarms := rfl
@[simp] theorem State.removeCue_desk (s : State) (id : Nat) : (s.removeCue id).desk = s.desk := rfl
@[simp] theorem State.removeCue_panel (s : State) (id : Nat) : (s.removeCue id).panel = s.panel := rfl
@[simp] theorem State.removeCue_unitAddress (s : State) (id : Nat) : (s.removeCue id).unitAddress = s.unitAddress := rfl
@[simp] theorem State.removeCue_primaryLink (s : State) (id : Nat) : (s.removeCue id).primaryLink = s.primaryLink := rfl
@[simp] theorem State.removeCue_strapAddress (s : State) (id : Nat) : (s.removeCue id).strapAddress = s.strapAddress := rfl
@[simp] theorem State.removeCue_strapPrimary (s : State) (id : Nat) : (s.removeCue id).strapPrimary = s.strapPrimary := rfl
@[simp] theorem State.removeCue_resetAsserted (s : State) (id : Nat) : (s.removeCue id).resetAsserted = s.resetAsserted := rfl
@[simp] theorem State.removeCue_now (s : State) (id : Nat) : (s.removeCue id).now = s.now := rfl
@[simp] theorem State.removeCue_pending (s : State) (id : Nat) : (s.removeCue id).pending = s.pending := rfl
@[simp] theorem State.removeCue_src (s : State) (id : Nat) (y : Src) : (s.removeCue id).src y = s.src y := rfl
@[simp] theorem State.removeCue_map (s : State) (id : Nat) (y : Src) : (s.removeCue id).map y = s.map y := rfl
@[simp] theorem State.removeCue_rundown (s : State) (id : Nat) (j : Isl) : (s.removeCue id).rundown j = s.rundown j := rfl
@[simp] theorem State.removeCue_isl (s : State) (id : Nat) (j : Isl) : (s.removeCue id).isl j = s.isl j := rfl
@[simp] theorem State.removeCue_eng (s : State) (id : Nat) (j : Isl) : (s.removeCue id).eng j = s.eng j := rfl
@[simp] theorem State.removeCue_port (s : State) (id : Nat) (p : Link) : (s.removeCue id).port p = s.port p := by cases p <;> rfl

/-! ### setAlarm -/

@[simp] theorem State.setAlarm_sources (s : State) (o : AlarmObj) (c : Cause) (f : AlarmRec → AlarmRec) : (s.setAlarm o c f).sources = s.sources := rfl
@[simp] theorem State.setAlarm_maps (s : State) (o : AlarmObj) (c : Cause) (f : AlarmRec → AlarmRec) : (s.setAlarm o c f).maps = s.maps := rfl
@[simp] theorem State.setAlarm_cues (s : State) (o : AlarmObj) (c : Cause) (f : AlarmRec → AlarmRec) : (s.setAlarm o c f).cues = s.cues := rfl
@[simp] theorem State.setAlarm_rundowns (s : State) (o : AlarmObj) (c : Cause) (f : AlarmRec → AlarmRec) : (s.setAlarm o c f).rundowns = s.rundowns := rfl
@[simp] theorem State.setAlarm_arbiter (s : State) (o : AlarmObj) (c : Cause) (f : AlarmRec → AlarmRec) : (s.setAlarm o c f).arbiter = s.arbiter := rfl
@[simp] theorem State.setAlarm_islands (s : State) (o : AlarmObj) (c : Cause) (f : AlarmRec → AlarmRec) : (s.setAlarm o c f).islands = s.islands := rfl
@[simp] theorem State.setAlarm_engines (s : State) (o : AlarmObj) (c : Cause) (f : AlarmRec → AlarmRec) : (s.setAlarm o c f).engines = s.engines := rfl
@[simp] theorem State.setAlarm_desk (s : State) (o : AlarmObj) (c : Cause) (f : AlarmRec → AlarmRec) : (s.setAlarm o c f).desk = s.desk := rfl
@[simp] theorem State.setAlarm_panel (s : State) (o : AlarmObj) (c : Cause) (f : AlarmRec → AlarmRec) : (s.setAlarm o c f).panel = s.panel := rfl
@[simp] theorem State.setAlarm_unitAddress (s : State) (o : AlarmObj) (c : Cause) (f : AlarmRec → AlarmRec) : (s.setAlarm o c f).unitAddress = s.unitAddress := rfl
@[simp] theorem State.setAlarm_primaryLink (s : State) (o : AlarmObj) (c : Cause) (f : AlarmRec → AlarmRec) : (s.setAlarm o c f).primaryLink = s.primaryLink := rfl
@[simp] theorem State.setAlarm_strapAddress (s : State) (o : AlarmObj) (c : Cause) (f : AlarmRec → AlarmRec) : (s.setAlarm o c f).strapAddress = s.strapAddress := rfl
@[simp] theorem State.setAlarm_strapPrimary (s : State) (o : AlarmObj) (c : Cause) (f : AlarmRec → AlarmRec) : (s.setAlarm o c f).strapPrimary = s.strapPrimary := rfl
@[simp] theorem State.setAlarm_resetAsserted (s : State) (o : AlarmObj) (c : Cause) (f : AlarmRec → AlarmRec) : (s.setAlarm o c f).resetAsserted = s.resetAsserted := rfl
@[simp] theorem State.setAlarm_now (s : State) (o : AlarmObj) (c : Cause) (f : AlarmRec → AlarmRec) : (s.setAlarm o c f).now = s.now := rfl
@[simp] theorem State.setAlarm_pending (s : State) (o : AlarmObj) (c : Cause) (f : AlarmRec → AlarmRec) : (s.setAlarm o c f).pending = s.pending := rfl
@[simp] theorem State.setAlarm_src (s : State) (o : AlarmObj) (c : Cause) (f : AlarmRec → AlarmRec) (y : Src) : (s.setAlarm o c f).src y = s.src y := rfl
@[simp] theorem State.setAlarm_map (s : State) (o : AlarmObj) (c : Cause) (f : AlarmRec → AlarmRec) (y : Src) : (s.setAlarm o c f).map y = s.map y := rfl
@[simp] theorem State.setAlarm_rundown (s : State) (o : AlarmObj) (c : Cause) (f : AlarmRec → AlarmRec) (j : Isl) : (s.setAlarm o c f).rundown j = s.rundown j := rfl
@[simp] theorem State.setAlarm_isl (s : State) (o : AlarmObj) (c : Cause) (f : AlarmRec → AlarmRec) (j : Isl) : (s.setAlarm o c f).isl j = s.isl j := rfl
@[simp] theorem State.setAlarm_eng (s : State) (o : AlarmObj) (c : Cause) (f : AlarmRec → AlarmRec) (j : Isl) : (s.setAlarm o c f).eng j = s.eng j := rfl
@[simp] theorem State.setAlarm_cue (s : State) (o : AlarmObj) (c : Cause) (f : AlarmRec → AlarmRec) (k : Nat) : (s.setAlarm o c f).cue k = s.cue k := rfl
@[simp] theorem State.setAlarm_port (s : State) (o : AlarmObj) (c : Cause) (f : AlarmRec → AlarmRec) (p : Link) : (s.setAlarm o c f).port p = s.port p := by cases p <;> rfl

/-! ### reachTick -/

@[simp] theorem State.reachTick_sources (s : State) (t : Nat) : (s.reachTick t).sources = s.sources := rfl
@[simp] theorem State.reachTick_maps (s : State) (t : Nat) : (s.reachTick t).maps = s.maps := rfl
@[simp] theorem State.reachTick_cues (s : State) (t : Nat) : (s.reachTick t).cues = s.cues := rfl
@[simp] theorem State.reachTick_rundowns (s : State) (t : Nat) : (s.reachTick t).rundowns = s.rundowns := rfl
@[simp] theorem State.reachTick_arbiter (s : State) (t : Nat) : (s.reachTick t).arbiter = s.arbiter := rfl
@[simp] theorem State.reachTick_islands (s : State) (t : Nat) : (s.reachTick t).islands = s.islands := rfl
@[simp] theorem State.reachTick_engines (s : State) (t : Nat) : (s.reachTick t).engines = s.engines := rfl
@[simp] theorem State.reachTick_alarms (s : State) (t : Nat) : (s.reachTick t).alarms = s.alarms := rfl
@[simp] theorem State.reachTick_desk (s : State) (t : Nat) : (s.reachTick t).desk = s.desk := rfl
@[simp] theorem State.reachTick_panel (s : State) (t : Nat) : (s.reachTick t).panel = s.panel := rfl
@[simp] theorem State.reachTick_unitAddress (s : State) (t : Nat) : (s.reachTick t).unitAddress = s.unitAddress := rfl
@[simp] theorem State.reachTick_primaryLink (s : State) (t : Nat) : (s.reachTick t).primaryLink = s.primaryLink := rfl
@[simp] theorem State.reachTick_strapAddress (s : State) (t : Nat) : (s.reachTick t).strapAddress = s.strapAddress := rfl
@[simp] theorem State.reachTick_strapPrimary (s : State) (t : Nat) : (s.reachTick t).strapPrimary = s.strapPrimary := rfl
@[simp] theorem State.reachTick_resetAsserted (s : State) (t : Nat) : (s.reachTick t).resetAsserted = s.resetAsserted := rfl
@[simp] theorem State.reachTick_pending (s : State) (t : Nat) : (s.reachTick t).pending = s.pending := rfl
@[simp] theorem State.reachTick_src (s : State) (t : Nat) (y : Src) : (s.reachTick t).src y = s.src y := rfl
@[simp] theorem State.reachTick_map (s : State) (t : Nat) (y : Src) : (s.reachTick t).map y = s.map y := rfl
@[simp] theorem State.reachTick_rundown (s : State) (t : Nat) (j : Isl) : (s.reachTick t).rundown j = s.rundown j := rfl
@[simp] theorem State.reachTick_isl (s : State) (t : Nat) (j : Isl) : (s.reachTick t).isl j = s.isl j := rfl
@[simp] theorem State.reachTick_eng (s : State) (t : Nat) (j : Isl) : (s.reachTick t).eng j = s.eng j := rfl
@[simp] theorem State.reachTick_cue (s : State) (t : Nat) (k : Nat) : (s.reachTick t).cue k = s.cue k := rfl
@[simp] theorem State.reachTick_port (s : State) (t : Nat) (p : Link) : (s.reachTick t).port p = s.port p := by cases p <;> rfl

/-! ### post -/

@[simp] theorem State.post_sources (s : State) (m : Notice) : (s.post m).sources = s.sources := rfl
@[simp] theorem State.post_maps (s : State) (m : Notice) : (s.post m).maps = s.maps := rfl
@[simp] theorem State.post_cues (s : State) (m : Notice) : (s.post m).cues = s.cues := rfl
@[simp] theorem State.post_rundowns (s : State) (m : Notice) : (s.post m).rundowns = s.rundowns := rfl
@[simp] theorem State.post_arbiter (s : State) (m : Notice) : (s.post m).arbiter = s.arbiter := rfl
@[simp] theorem State.post_islands (s : State) (m : Notice) : (s.post m).islands = s.islands := rfl
@[simp] theorem State.post_engines (s : State) (m : Notice) : (s.post m).engines = s.engines := rfl
@[simp] theorem State.post_alarms (s : State) (m : Notice) : (s.post m).alarms = s.alarms := rfl
@[simp] theorem State.post_unitAddress (s : State) (m : Notice) : (s.post m).unitAddress = s.unitAddress := rfl
@[simp] theorem State.post_primaryLink (s : State) (m : Notice) : (s.post m).primaryLink = s.primaryLink := rfl
@[simp] theorem State.post_strapAddress (s : State) (m : Notice) : (s.post m).strapAddress = s.strapAddress := rfl
@[simp] theorem State.post_strapPrimary (s : State) (m : Notice) : (s.post m).strapPrimary = s.strapPrimary := rfl
@[simp] theorem State.post_resetAsserted (s : State) (m : Notice) : (s.post m).resetAsserted = s.resetAsserted := rfl
@[simp] theorem State.post_now (s : State) (m : Notice) : (s.post m).now = s.now := rfl
@[simp] theorem State.post_pending (s : State) (m : Notice) : (s.post m).pending = s.pending := rfl
@[simp] theorem State.post_src (s : State) (m : Notice) (y : Src) : (s.post m).src y = s.src y := rfl
@[simp] theorem State.post_map (s : State) (m : Notice) (y : Src) : (s.post m).map y = s.map y := rfl
@[simp] theorem State.post_rundown (s : State) (m : Notice) (j : Isl) : (s.post m).rundown j = s.rundown j := rfl
@[simp] theorem State.post_isl (s : State) (m : Notice) (j : Isl) : (s.post m).isl j = s.isl j := rfl
@[simp] theorem State.post_eng (s : State) (m : Notice) (j : Isl) : (s.post m).eng j = s.eng j := rfl
@[simp] theorem State.post_cue (s : State) (m : Notice) (k : Nat) : (s.post m).cue k = s.cue k := rfl

/-! ### setPort -/

@[simp] theorem State.setPort_sources (s : State) (p : Link) (v : Port) : (s.setPort p v).sources = s.sources := by cases p <;> rfl
@[simp] theorem State.setPort_maps (s : State) (p : Link) (v : Port) : (s.setPort p v).maps = s.maps := by cases p <;> rfl
@[simp] theorem State.setPort_cues (s : State) (p : Link) (v : Port) : (s.setPort p v).cues = s.cues := by cases p <;> rfl
@[simp] theorem State.setPort_rundowns (s : State) (p : Link) (v : Port) : (s.setPort p v).rundowns = s.rundowns := by cases p <;> rfl
@[simp] theorem State.setPort_arbiter (s : State) (p : Link) (v : Port) : (s.setPort p v).arbiter = s.arbiter := by cases p <;> rfl
@[simp] theorem State.setPort_islands (s : State) (p : Link) (v : Port) : (s.setPort p v).islands = s.islands := by cases p <;> rfl
@[simp] theorem State.setPort_engines (s : State) (p : Link) (v : Port) : (s.setPort p v).engines = s.engines := by cases p <;> rfl
@[simp] theorem State.setPort_alarms (s : State) (p : Link) (v : Port) : (s.setPort p v).alarms = s.alarms := by cases p <;> rfl
@[simp] theorem State.setPort_unitAddress (s : State) (p : Link) (v : Port) : (s.setPort p v).unitAddress = s.unitAddress := by cases p <;> rfl
@[simp] theorem State.setPort_primaryLink (s : State) (p : Link) (v : Port) : (s.setPort p v).primaryLink = s.primaryLink := by cases p <;> rfl
@[simp] theorem State.setPort_strapAddress (s : State) (p : Link) (v : Port) : (s.setPort p v).strapAddress = s.strapAddress := by cases p <;> rfl
@[simp] theorem State.setPort_strapPrimary (s : State) (p : Link) (v : Port) : (s.setPort p v).strapPrimary = s.strapPrimary := by cases p <;> rfl
@[simp] theorem State.setPort_resetAsserted (s : State) (p : Link) (v : Port) : (s.setPort p v).resetAsserted = s.resetAsserted := by cases p <;> rfl
@[simp] theorem State.setPort_now (s : State) (p : Link) (v : Port) : (s.setPort p v).now = s.now := by cases p <;> rfl
@[simp] theorem State.setPort_pending (s : State) (p : Link) (v : Port) : (s.setPort p v).pending = s.pending := by cases p <;> rfl
@[simp] theorem State.setPort_src (s : State) (p : Link) (v : Port) (y : Src) : (s.setPort p v).src y = s.src y := by cases p <;> rfl
@[simp] theorem State.setPort_map (s : State) (p : Link) (v : Port) (y : Src) : (s.setPort p v).map y = s.map y := by cases p <;> rfl
@[simp] theorem State.setPort_rundown (s : State) (p : Link) (v : Port) (j : Isl) : (s.setPort p v).rundown j = s.rundown j := by cases p <;> rfl
@[simp] theorem State.setPort_isl (s : State) (p : Link) (v : Port) (j : Isl) : (s.setPort p v).isl j = s.isl j := by cases p <;> rfl
@[simp] theorem State.setPort_eng (s : State) (p : Link) (v : Port) (j : Isl) : (s.setPort p v).eng j = s.eng j := by cases p <;> rfl
@[simp] theorem State.setPort_cue (s : State) (p : Link) (v : Port) (k : Nat) : (s.setPort p v).cue k = s.cue k := by cases p <;> rfl

/-! ### What an update does to its own part -/

@[simp] theorem State.setSrc_src_self (s : State) (x : Src) (v : Source) : (s.setSrc x v).src x = v := by
  simp [State.setSrc, State.src]

theorem State.setSrc_src (s : State) (x y : Src) (v : Source) :
    (s.setSrc x v).src y = if y = x then v else s.src y := by
  by_cases h : y = x
  · subst h; simp
  · have : (x : Nat) ≠ y := fun e => h (Fin.ext e.symm)
    simp [State.setSrc, State.src, Vector.getElem_set_ne, this, h]

@[simp] theorem State.setMap_map_self (s : State) (x : Src) (v : List Segment) : (s.setMap x v).map x = v := by
  simp [State.setMap, State.map]

theorem State.setMap_map (s : State) (x y : Src) (v : List Segment) :
    (s.setMap x v).map y = if y = x then v else s.map y := by
  by_cases h : y = x
  · subst h; simp
  · have : (x : Nat) ≠ y := fun e => h (Fin.ext e.symm)
    simp [State.setMap, State.map, Vector.getElem_set_ne, this, h]

@[simp] theorem State.setRundown_rundown_self (s : State) (i : Isl) (v : List Nat) :
    (s.setRundown i v).rundown i = v := by
  simp [State.setRundown, State.rundown]

theorem State.setRundown_rundown (s : State) (i j : Isl) (v : List Nat) :
    (s.setRundown i v).rundown j = if j = i then v else s.rundown j := by
  by_cases h : j = i
  · subst h; simp
  · have : (i : Nat) ≠ j := fun e => h (Fin.ext e.symm)
    simp [State.setRundown, State.rundown, Vector.getElem_set_ne, this, h]

@[simp] theorem State.setIsl_isl_self (s : State) (i : Isl) (v : Island) : (s.setIsl i v).isl i = v := by
  simp [State.setIsl, State.isl]

theorem State.setIsl_isl (s : State) (i j : Isl) (v : Island) :
    (s.setIsl i v).isl j = if j = i then v else s.isl j := by
  by_cases h : j = i
  · subst h; simp
  · have : (i : Nat) ≠ j := fun e => h (Fin.ext e.symm)
    simp [State.setIsl, State.isl, Vector.getElem_set_ne, this, h]

@[simp] theorem State.setEng_eng_self (s : State) (i : Isl) (v : Engine) : (s.setEng i v).eng i = v := by
  simp [State.setEng, State.eng]

theorem State.setEng_eng (s : State) (i j : Isl) (v : Engine) :
    (s.setEng i v).eng j = if j = i then v else s.eng j := by
  by_cases h : j = i
  · subst h; simp
  · have : (i : Nat) ≠ j := fun e => h (Fin.ext e.symm)
    simp [State.setEng, State.eng, Vector.getElem_set_ne, this, h]

@[simp] theorem State.setPort_port_self (s : State) (p : Link) (v : Port) : (s.setPort p v).port p = v := by
  cases p <;> rfl

theorem State.setPort_port (s : State) (p q : Link) (v : Port) :
    (s.setPort p v).port q = if q = p then v else s.port q := by
  cases p <;> cases q <;> rfl

@[simp] theorem State.setPort_port_other (s : State) (p : Link) (v : Port) :
    (s.setPort p v).port p.other = s.port p.other := by
  cases p <;> rfl

theorem State.post_port (s : State) (m : Notice) (p : Link) : (s.post m).port p = (s.port p).post m := by
  cases p <;> rfl

@[simp] theorem State.reachTick_now (s : State) (t : Nat) : (s.reachTick t).now = max s.now t := rfl

/-! ### The conditional updates -/

theorem State.postIf_eq (s : State) (b : Bool) (m : Notice) : s.postIf b m = s ∨ s.postIf b m = s.post m := by
  cases b
  · exact .inl rfl
  · exact .inr rfl

@[simp] theorem State.postIf_sources (s : State) (b : Bool) (m : Notice) : (s.postIf b m).sources = s.sources := by cases b <;> rfl
@[simp] theorem State.postIf_maps (s : State) (b : Bool) (m : Notice) : (s.postIf b m).maps = s.maps := by cases b <;> rfl
@[simp] theorem State.postIf_cues (s : State) (b : Bool) (m : Notice) : (s.postIf b m).cues = s.cues := by cases b <;> rfl
@[simp] theorem State.postIf_rundowns (s : State) (b : Bool) (m : Notice) : (s.postIf b m).rundowns = s.rundowns := by cases b <;> rfl
@[simp] theorem State.postIf_arbiter (s : State) (b : Bool) (m : Notice) : (s.postIf b m).arbiter = s.arbiter := by cases b <;> rfl
@[simp] theorem State.postIf_islands (s : State) (b : Bool) (m : Notice) : (s.postIf b m).islands = s.islands := by cases b <;> rfl
@[simp] theorem State.postIf_engines (s : State) (b : Bool) (m : Notice) : (s.postIf b m).engines = s.engines := by cases b <;> rfl
@[simp] theorem State.postIf_alarms (s : State) (b : Bool) (m : Notice) : (s.postIf b m).alarms = s.alarms := by cases b <;> rfl
@[simp] theorem State.postIf_unitAddress (s : State) (b : Bool) (m : Notice) : (s.postIf b m).unitAddress = s.unitAddress := by cases b <;> rfl
@[simp] theorem State.postIf_primaryLink (s : State) (b : Bool) (m : Notice) : (s.postIf b m).primaryLink = s.primaryLink := by cases b <;> rfl
@[simp] theorem State.postIf_strapAddress (s : State) (b : Bool) (m : Notice) : (s.postIf b m).strapAddress = s.strapAddress := by cases b <;> rfl
@[simp] theorem State.postIf_strapPrimary (s : State) (b : Bool) (m : Notice) : (s.postIf b m).strapPrimary = s.strapPrimary := by cases b <;> rfl
@[simp] theorem State.postIf_resetAsserted (s : State) (b : Bool) (m : Notice) : (s.postIf b m).resetAsserted = s.resetAsserted := by cases b <;> rfl
@[simp] theorem State.postIf_now (s : State) (b : Bool) (m : Notice) : (s.postIf b m).now = s.now := by cases b <;> rfl
@[simp] theorem State.postIf_pending (s : State) (b : Bool) (m : Notice) : (s.postIf b m).pending = s.pending := by cases b <;> rfl
@[simp] theorem State.postIf_src (s : State) (b : Bool) (m : Notice) (y : Src) : (s.postIf b m).src y = s.src y := by cases b <;> rfl
@[simp] theorem State.postIf_map (s : State) (b : Bool) (m : Notice) (y : Src) : (s.postIf b m).map y = s.map y := by cases b <;> rfl
@[simp] theorem State.postIf_rundown (s : State) (b : Bool) (m : Notice) (j : Isl) : (s.postIf b m).rundown j = s.rundown j := by cases b <;> rfl
@[simp] theorem State.postIf_isl (s : State) (b : Bool) (m : Notice) (j : Isl) : (s.postIf b m).isl j = s.isl j := by cases b <;> rfl
@[simp] theorem State.postIf_eng (s : State) (b : Bool) (m : Notice) (j : Isl) : (s.postIf b m).eng j = s.eng j := by cases b <;> rfl
@[simp] theorem State.postIf_cue (s : State) (b : Bool) (m : Notice) (k : Nat) : (s.postIf b m).cue k = s.cue k := by cases b <;> rfl

end Sys2Proof.Machine
end

