-- ==== Sys2Proof/Laws/Kept.lean ====
section
/-! SUPPORT. One lemma for each shared operation of Ops.lean, Engine.lean, Arming.lean and Emergency.lean: what it leaves as it
was (`Kept`, `KeptByFaults`). -/

namespace Sys2Proof.Machine

/-! ### The relation -/

theorem KeptBy.refl (g : Source → Source) (s : State) : KeptBy g s s :=
  ⟨rfl, fun _ => rfl, fun _ => rfl, fun _ => rfl, .refl _, rfl, rfl, rfl, rfl, rfl, rfl, rfl⟩

theorem KeptBy.trans {g : Source → Source} {s t u : State} (h : KeptBy g s t) (k : KeptBy g t u) : KeptBy g s u :=
  ⟨k.maps.trans h.maps, fun x => (k.sources x).trans (h.sources x), fun i => (k.islands i).trans (h.islands i),
    fun p => (k.ports p).trans (h.ports p), k.cues.trans h.cues, k.unitAddress.trans h.unitAddress,
    k.primaryLink.trans h.primaryLink, k.strapAddress.trans h.strapAddress, k.strapPrimary.trans h.strapPrimary,
    k.resetAsserted.trans h.resetAsserted, k.now.trans h.now, k.pending.trans h.pending⟩

/-- The fault logic keeps no more of a source than the engines do. -/
theorem Source.keptByFaults_of_kept {v w : Source} (h : v.kept = w.kept) : v.keptByFaults = w.keptByFaults := by
  simp only [Source.keptByFaults, h]

theorem KeptBy.byFaults {s t : State} (h : Kept s t) : KeptByFaults s t :=
  { h with sources := fun x => Source.keptByFaults_of_kept (h.sources x) }

/-- A conditional operation keeps what both of its branches keep. -/
theorem KeptBy.ite {g : Source → Source} {s t u : State} {b : Prop} [Decidable b] (h : KeptBy g s t) (k : KeptBy g s u) :
    KeptBy g s (if b then t else u) := by
  split <;> assumption

/-- A fold keeps what each of its steps keeps. -/
theorem KeptBy.foldl {α : Type} {g : Source → Source} {op : State → α → State} (h : ∀ s a, KeptBy g s (op s a))
    (l : List α) (s : State) : KeptBy g s (l.foldl op s) := by
  induction l generalizing s with
  | nil => exact KeptBy.refl g s
  | cons a l ih => exact (h s a).trans (ih (op s a))

/-! ### Plain updates -/

theorem Port.post_kept (q : Port) (m : Notice) : (q.post m).kept = q.kept := by
  unfold Port.post
  repeat' split
  all_goals rfl

theorem State.post_keptBy (g : Source → Source) (s : State) (m : Notice) : KeptBy g s (s.post m) :=
  { KeptBy.refl g s with ports := fun p => by rw [State.post_port]; exact Port.post_kept _ m }

theorem State.postIf_keptBy (g : Source → Source) (s : State) (b : Bool) (m : Notice) : KeptBy g s (s.postIf b m) := by
  cases b
  · exact KeptBy.refl g s
  · exact s.post_keptBy g m

theorem State.setSrc_keptBy {g : Source → Source} {s : State} {x : Src} {v : Source} (h : g v = g (s.src x)) :
    KeptBy g s (s.setSrc x v) :=
  { KeptBy.refl g s with
    ports := fun p => by simp
    sources := fun y => by
      rw [State.setSrc_src]
      split
      · subst y; exact h
      · rfl }

theorem State.modSrc_keptBy {g : Source → Source} {s : State} {x : Src} {f : Source → Source}
    (h : ∀ v, g (f v) = g v) : KeptBy g s (s.modSrc x f) :=
  (State.setSrc_keptBy (h _)).trans (State.postIf_keptBy g _ _ _)

theorem State.setIsl_keptBy {g : Source → Source} {s : State} {i : Isl} {v : Island} (h : v.kept = (s.isl i).kept) :
    KeptBy g s (s.setIsl i v) :=
  { KeptBy.refl g s with
    ports := fun p => by simp
    islands := fun j => by
      rw [State.setIsl_isl]
      split
      · subst j; exact h
      · rfl }

theorem State.setEng_keptBy (g : Source → Source) (s : State) (i : Isl) (v : Engine) : KeptBy g s (s.setEng i v) :=
  { KeptBy.refl g s with ports := fun p => by simp }

theorem State.modEng_keptBy (g : Source → Source) (s : State) (i : Isl) (f : Engine → Engine) :
    KeptBy g s (s.modEng i f) :=
  (s.setEng_keptBy g i _).trans (State.postIf_keptBy g _ _ _)

theorem State.setRundown_keptBy (g : Source → Source) (s : State) (i : Isl) (v : List Nat) :
    KeptBy g s (s.setRundown i v) :=
  { KeptBy.refl g s with ports := fun p => by simp }

/-- Changes of the alarm unit and of the arbiter are outside what is kept. -/
theorem State.setAlarms_keptBy (g : Source → Source) (s : State) (a : AlarmUnit) :
    KeptBy g s { s with alarms := a } :=
  { KeptBy.refl g s with ports := fun p => by cases p <;> rfl }

theorem State.setArbiter_keptBy (g : Source → Source) (s : State) (a : Arbiter) :
    KeptBy g s { s with arbiter := a } :=
  { KeptBy.refl g s with ports := fun p => by cases p <;> rfl }

/-- A cue record changes within what its states and its outcome may change. -/
theorem State.setCue_keptBy (g : Source → Source) (s : State) (id : Nat) {f : CueRec → CueRec}
    (h : ∀ c, (f c).kept = c.kept) : KeptBy g s (s.setCue id f) :=
  { KeptBy.refl g s with
    ports := fun p => by simp
    cues := by
      have : (s.setCue id f).cues.map CueRec.kept = s.cues.map CueRec.kept := by
        simp only [State.setCue, List.map_map]
        refine List.map_congr_left (fun c _ => ?_)
        simp only [Function.comp]
        split
        · exact h c
        · rfl
      exact this ▸ List.Sublist.refl _ }

theorem State.modCue_keptBy (g : Source → Source) (s : State) (id : Nat) {f : CueRec → CueRec}
    (h : ∀ c, (f c).kept = c.kept) : KeptBy g s (s.modCue id f) :=
  (s.setCue_keptBy g id h).trans (State.postIf_keptBy g _ _ _)

theorem State.removeCue_keptBy (g : Source → Source) (s : State) (id : Nat) : KeptBy g s (s.removeCue id) :=
  { KeptBy.refl g s with
    ports := fun p => by simp
    cues := (List.filter_sublist).map _ }

/-! ### Alarms -/

theorem State.setAlarm_keptBy (g : Source → Source) (s : State) (o : AlarmObj) (c : Cause)
    (f : AlarmRec → AlarmRec) : KeptBy g s (s.setAlarm o c f) :=
  s.setAlarms_keptBy g _

theorem State.raise_keptBy (g : Source → Source) (s : State) (o : AlarmObj) (c : Cause) (sev : Severity)
    (captured : Option Int) (cueId : Option Nat) : KeptBy g s (s.raise o c sev captured cueId) := by
  have h := s.setAlarms_keptBy g { s.alarms with silence := false }
  unfold State.raise
  dsimp only
  split
  · exact (h.trans (State.setAlarm_keptBy g _ _ _ _)).trans (State.postIf_keptBy g _ _ _)
  · split <;> exact (h.trans (State.setAlarms_keptBy g _ _)).trans (State.post_keptBy g _ _)

theorem State.retireAlarm_keptBy (g : Source → Source) (s : State) (o : AlarmObj) (c : Cause) :
    KeptBy g s (s.retireAlarm o c) :=
  (s.setAlarms_keptBy g _).trans (State.post_keptBy g _ _)

theorem State.endAlarm_keptBy (g : Source → Source) (s : State) (o : AlarmObj) (c : Cause) :
    KeptBy g s (s.endAlarm o c) := by
  unfold State.endAlarm
  split
  · exact KeptBy.refl g s
  · split
    · exact (s.setAlarm_keptBy g _ _ _).trans (State.post_keptBy g _ _)
    · exact s.retireAlarm_keptBy g _ _
    · exact KeptBy.refl g s

theorem State.ackAlarm_keptBy (g : Source → Source) (s : State) (r : AlarmRec) : KeptBy g s (s.ackAlarm r) := by
  unfold State.ackAlarm
  split
  · split
    · exact (s.setAlarm_keptBy g _ _ _).trans (State.post_keptBy g _ _)
    · exact KeptBy.refl g s
    · exact s.retireAlarm_keptBy g _ _
  · exact s.retireAlarm_keptBy g _ _

theorem State.raiseSource_keptBy (g : Source → Source) (s : State) (x : Src) (c : Cause) (sev : Severity) :
    KeptBy g s (s.raiseSource x c sev) :=
  s.raise_keptBy g _ _ _ _ _

theorem State.raiseIsland_keptBy (g : Source → Source) (s : State) (i : Isl) (c : Cause) (sev : Severity)
    (cueId : Option Nat) : KeptBy g s (s.raiseIsland i c sev cueId) :=
  s.raise_keptBy g _ _ _ _ _

/-! ### The arbiter -/

theorem State.refill_keptBy (g : Source → Source) (s : State) : KeptBy g s s.refill := by
  unfold State.refill
  split
  · split
    · exact KeptBy.refl g s
    · exact (s.setArbiter_keptBy g _).trans (State.post_keptBy g _ _)
  · exact KeptBy.refl g s

theorem State.request_keptBy (g : Source → Source) (s : State) (x : Src) (o : Origin) :
    KeptBy g s (s.request x o) := by
  unfold State.request
  split
  · exact KeptBy.refl g s
  · split
    · exact s.setArbiter_keptBy g _
    · exact (s.setArbiter_keptBy g _).trans (State.post_keptBy g _ _)

theorem State.withdraw_keptBy (g : Source → Source) (s : State) (x : Src) : KeptBy g s (s.withdraw x) := by
  unfold State.withdraw
  split
  · exact ((s.setArbiter_keptBy g _).trans (State.postIf_keptBy g _ _ _)).trans (State.refill_keptBy g _)
  · exact KeptBy.refl g s

theorem State.release_keptBy (g : Source → Source) (s : State) (x : Src) : KeptBy g s (s.release x) := by
  unfold State.release
  split
  · exact (((s.setArbiter_keptBy g _).trans (State.post_keptBy g _ _)).trans (State.refill_keptBy g _)).trans
      (State.refill_keptBy g _)
  · exact KeptBy.refl g s

/-! ### Conditions that end, and the outputs of a source -/

theorem State.putCond_kept (s : State) (x : Src) (k : Cond) (b : Bool) : Kept s (s.putCond x k b) :=
  State.setSrc_keptBy (by rfl)

theorem State.condEnd_kept (s : State) (x : Src) (k : Cond) : Kept s (s.condEnd x k) := by
  unfold State.condEnd
  split
  · exact (s.putCond_kept x k false).trans (State.endAlarm_keptBy _ _ _ _)
  · exact KeptBy.refl _ s

theorem State.condEnds_kept (s : State) (x : Src) : Kept s (s.condEnds x) :=
  KeptBy.foldl (fun s k => s.condEnd_kept x k) _ s

theorem State.motorCut_kept (s : State) (x : Src) : Kept s (s.motorCut x) := by
  unfold State.motorCut
  split
  · exact (State.modSrc_keptBy (fun _ => by rfl)).trans (State.release_keptBy _ _ x)
  · exact s.withdraw_keptBy _ x

theorem State.motorOff_kept (s : State) (x : Src) : Kept s (s.motorOff x) :=
  (s.motorCut_kept x).trans (State.condEnds_kept _ x)

theorem State.dowserClose_kept (s : State) (x : Src) : Kept s (s.dowserClose x) := State.modSrc_keptBy (fun _ => by rfl)

theorem State.dowserOpen_kept (s : State) (x : Src) : Kept s (s.dowserOpen x) := by
  unfold State.dowserOpen
  split
  · exact KeptBy.refl _ s
  · exact State.modSrc_keptBy (fun _ => by rfl)

theorem State.tailRequest_kept (s : State) (x : Src) : Kept s (s.tailRequest x) := by
  unfold State.tailRequest
  split
  · split
    · split
      · exact State.modSrc_keptBy (fun _ => by rfl)
      · exact s.motorOff_kept x
    · exact s.motorOff_kept x
  · exact KeptBy.refl _ s

/-! ### Lockout and conditions that begin -/

theorem State.inchOff_keptByFaults (s : State) (x : Src) : KeptByFaults s (s.inchOff x) := State.modSrc_keptBy (fun _ => by rfl)

theorem State.setLockout_keptByFaults (s : State) (x : Src) (c : LockCause) : KeptByFaults s (s.setLockout x c) := by
  unfold State.setLockout
  dsimp only
  split
  · exact KeptBy.refl _ s
  · refine KeptBy.trans ?_ (State.modSrc_keptBy (fun _ => by rfl))
    refine KeptBy.trans ?_ (State.withdraw_keptBy _ _ _)
    refine KeptBy.trans ?_ (State.motorCut_kept _ _).byFaults
    exact State.modSrc_keptBy (fun _ => by rfl)

theorem State.condBegin_keptByFaults (s : State) (x : Src) (k : Cond) : KeptByFaults s (s.condBegin x k) := by
  have h : KeptByFaults s (s.putCond x k true) := (s.putCond_kept x k true).byFaults
  refine h.trans (KeptBy.trans ?_ (State.raiseSource_keptBy _ _ _ _ _))
  exact KeptBy.ite (State.setLockout_keptByFaults _ x _) (KeptBy.refl _ _)

theorem State.testConds_keptByFaults (s : State) (x : Src) : KeptByFaults s (s.testConds x) :=
  (KeptBy.foldl (fun s k => s.condBegin_keptByFaults x k) _ s).trans (State.condEnds_kept _ x).byFaults

/-! ### Cue records and marks -/

theorem State.unplace_keptBy (g : Source → Source) (s : State) (i : Isl) (id : Nat) : KeptBy g s (s.unplace i id) :=
  s.setRundown_keptBy g i _

theorem State.endCue_keptBy (g : Source → Source) (s : State) (c : CueRec) {f : CueRec → CueRec}
    (h : ∀ r, (f r).kept = r.kept) : KeptBy g s (s.endCue c f) := by
  have k := (s.modCue_keptBy g c.id (f := fun r => { f r with blocked := none, slotRequested := false })
    (fun r => by exact h r)).trans (State.unplace_keptBy g _ c.island c.id)
  unfold State.endCue
  dsimp only
  split
  · split
    · exact k.trans (State.removeCue_keptBy g _ _)
    · exact k
  · exact k

theorem State.missCue_keptBy (g : Source → Source) (s : State) (c : CueRec) (cause : MissCause) :
    KeptBy g s (s.missCue c cause) :=
  s.endCue_keptBy g c (fun _ => by rfl)

theorem State.armMark_keptBy (g : Source → Source) (s : State) (id : Nat) : KeptBy g s (s.armMark id) := by
  unfold State.armMark
  split
  · split
    · exact s.modCue_keptBy g _ (fun _ => by rfl)
    · exact KeptBy.refl g s
  · exact KeptBy.refl g s

theorem State.armMarks_keptBy (g : Source → Source) (s : State) (x : Src) : KeptBy g s (s.armMarks x) :=
  KeptBy.foldl (fun s id => s.armMark_keptBy g id) _ s

theorem State.disarmMarks_keptBy (g : Source → Source) (s : State) (x : Src) : KeptBy g s (s.disarmMarks x) :=
  KeptBy.foldl (fun s id => s.modCue_keptBy g id (fun _ => by rfl)) _ s

theorem State.crossMarks_keptBy (g : Source → Source) (s : State) (x : Src) (before after : Option Int) :
    KeptBy g s (s.crossMarks x before after) :=
  KeptBy.foldl (fun s c => s.endCue_keptBy g c (fun _ => by rfl)) _ s

/-! ### The engines (Engine.lean) -/

theorem State.driftStop_keptBy (g : Source → Source) (s : State) (i : Isl) : KeptBy g s (s.driftStop i) := by
  have h : KeptBy g s (s.setIsl i { s.isl i with driftTimer := none, liveNone := false }) := State.setIsl_keptBy (by rfl)
  unfold State.driftStop
  dsimp only
  split
  · exact h.trans (State.endAlarm_keptBy g _ _ _)
  · exact h

theorem State.driftStart_keptBy (g : Source → Source) (s : State) (i : Isl) : KeptBy g s (s.driftStart i) := by
  unfold State.driftStart
  split
  · exact KeptBy.refl g s
  · exact State.setIsl_keptBy (by rfl)

theorem State.engIdle_keptBy (g : Source → Source) (s : State) (i : Isl) : KeptBy g s (s.engIdle i) :=
  s.modEng_keptBy g i _

theorem State.moveEnd_keptBy (g : Source → Source) (s : State) (i : Isl) : KeptBy g s (s.moveEnd i) :=
  (s.engIdle_keptBy g i).trans (KeptBy.ite (State.driftStart_keptBy g _ i) (KeptBy.refl g _))

theorem State.attempt_keptBy (g : Source → Source) (s : State) (i : Isl) (target : InPos) (k : Nat) :
    KeptBy g s (s.attempt i target k) :=
  (s.modEng_keptBy g i _).trans (State.driftStop_keptBy g _ i)

theorem State.attemptTo_keptBy (g : Source → Source) (s : State) (i : Isl) (x : Src) :
    KeptBy g s (s.attemptTo i x) := by
  unfold State.attemptTo
  split
  · exact s.attempt_keptBy g i _ 1
  · exact KeptBy.refl g s

theorem State.beginReturn_keptBy (g : Source → Source) (s : State) (i : Isl) (k : InPos) :
    KeptBy g s (s.beginReturn i k) :=
  ((s.modEng_keptBy g i _).trans (State.attempt_keptBy g _ i k 1)).trans
    (KeptBy.ite (State.moveEnd_keptBy g _ i) (KeptBy.refl g _))

theorem State.fire_kept (s : State) (i : Isl) (c : CueRec) (notAtSpeed held : Bool) :
    Kept s (s.fire i c notAtSpeed held) := by
  unfold State.fire
  split
  · exact KeptBy.refl _ s
  · exact (((s.modCue_keptBy _ _ (fun _ => by rfl)).trans (State.modEng_keptBy _ _ i _)).trans
      (State.attemptTo_keptBy _ _ i _)).trans (State.dowserOpen_kept _ _)

theorem State.endFlight_keptBy (g : Source → Source) (s : State) (i : Isl) (c : CueRec) (cause : MissCause) :
    KeptBy g s (s.endFlight i c cause) :=
  (s.missCue_keptBy g c cause).trans (State.engIdle_keptBy g _ i)

theorem State.fireStop_kept (s : State) (i : Isl) (c : CueRec) : Kept s (s.fireStop i c) :=
  ((s.motorOff_kept _).trans (State.endCue_keptBy _ _ c (fun _ => by rfl))).trans (State.engIdle_keptBy _ _ i)

theorem State.missNotReady_kept (s : State) (i : Isl) (c : CueRec) (x : Src) : Kept s (s.missNotReady i c x) :=
  ((s.motorOff_kept _).trans (State.endCue_keptBy _ _ c (fun _ => by rfl))).trans (State.engIdle_keptBy _ _ i)

theorem State.disarm_keptBy (g : Source → Source) (s : State) (i : Isl) (c : CueRec) : KeptBy g s (s.disarm i c) := by
  unfold State.disarm
  split
  · exact ((s.withdraw_keptBy g _).trans (State.modCue_keptBy g _ _ (fun _ => by rfl))).trans (State.engIdle_keptBy g _ i)
  · exact (s.modCue_keptBy g _ (fun _ => by rfl)).trans (State.engIdle_keptBy g _ i)

theorem State.askSlot_keptBy (g : Source → Source) (s : State) (i : Isl) (id : Nat) (x : Src) :
    KeptBy g s (s.askSlot i id x) := by
  unfold State.askSlot
  split
  · exact KeptBy.refl g s
  · exact (s.request_keptBy g x _).trans (State.modCue_keptBy g _ _ (fun _ => by rfl))

theorem State.testStart_keptBy (g : Source → Source) (s : State) (i : Isl) (id : Nat) :
    KeptBy g s (s.testStart i id) := by
  unfold State.testStart
  split
  · exact KeptBy.refl g s
  · split
    · split
      · exact s.askSlot_keptBy g i id _
      · exact KeptBy.refl g s
    · exact KeptBy.refl g s

theorem State.computeStart_keptBy (g : Source → Source) (s : State) (i : Isl) (id : Nat) :
    KeptBy g s (s.computeStart i id) := by
  unfold State.computeStart
  split
  · exact KeptBy.refl g s
  · split
    · split
      · exact (((s.setCue_keptBy g id (fun _ => by rfl)).trans (State.modCue_keptBy g _ id (fun _ => by rfl))).trans
          (State.setEng_keptBy g _ i _)).trans (State.testStart_keptBy g _ i id)
      · exact KeptBy.refl g s
    · exact KeptBy.refl g s

theorem State.recompute_keptBy (g : Source → Source) (s : State) (i : Isl) : KeptBy g s (s.recompute i) := by
  unfold State.recompute
  split
  · split
    · exact s.computeStart_keptBy g i _
    · exact KeptBy.refl g s
  · exact KeptBy.refl g s

theorem State.decideRolling_kept (s : State) (i : Isl) (c : CueRec) : Kept s (s.decideRolling i c) := by
  unfold State.decideRolling
  split
  · exact s.fire_kept i c _ _
  · exact s.modEng_keptBy _ i _
  · exact s.missNotReady_kept i c _
  · exact KeptBy.refl _ s

theorem State.decide_kept (s : State) (i : Isl) (c : CueRec) : Kept s (s.decide i c) := by
  unfold State.decide
  split
  · exact s.modEng_keptBy _ i _
  · exact s.decideRolling_kept i c
  · exact s.fire_kept i c _ _
  all_goals exact KeptBy.refl _ s

theorem State.startProceeds_kept (s : State) (i : Isl) (c : CueRec) (late held : Bool) :
    Kept s (s.startProceeds i c late held) := by
  have h := (s.modCue_keptBy Source.kept c.id (f := fun r =>
    { r with state := .rolling, slotRequested := false, lateStart := r.lateStart || late }) (fun _ => by rfl)).trans
    (State.modEng_keptBy _ _ i (fun e => { e with state := .rolling, holdPicture := e.holdPicture || held }))
  unfold State.startProceeds
  dsimp only
  split
  · exact h.trans (State.decideRolling_kept _ i c)
  · exact h

theorem State.confirmCue_kept (s : State) (i : Isl) (c : CueRec) : Kept s (s.confirmCue i c) := by
  have h := (((s.dowserClose_kept c.subject).trans (State.tailRequest_kept _ c.subject)).trans
    (State.endCue_keptBy _ _ c (f := fun r => { r with state := .done }) (fun _ => by rfl))).trans
    (State.engIdle_keptBy _ _ i)
  unfold State.confirmCue
  dsimp only
  repeat' split
  · exact h.trans (State.raiseIsland_keptBy _ _ i _ _ _)
  · exact h
  · exact h

theorem State.confirmCut_kept (s : State) (i : Isl) : Kept s (s.confirmCut i) := by
  unfold State.confirmCut
  split
  · exact ((s.dowserClose_kept _).trans (State.tailRequest_kept _ _)).trans (State.moveEnd_keptBy _ _ i)
  · exact s.moveEnd_keptBy _ i
  · exact s.moveEnd_keptBy _ i

theorem State.confirm_kept (s : State) (i : Isl) : Kept s (s.confirm i) := by
  unfold State.confirm
  repeat' split
  all_goals first
    | exact KeptBy.refl _ s
    | exact s.moveEnd_keptBy _ i
    | exact s.confirmCue_kept i _
    | exact s.confirmCut_kept i

theorem State.failCue_kept (s : State) (i : Isl) (c : CueRec) : Kept s (s.failCue i c) := by
  have h := s.raiseIsland_keptBy Source.kept i .mirrorFault .urgent (some c.id)
  have stopped : ∀ u : State, Kept s u → Kept s (match (s.eng i).returnPos with
      | some k => (u.missCue c .mirror).beginReturn i k
      | none => (u.missCue c .mirror).moveEnd i) := by
    intro u k
    split
    · exact (k.trans (State.missCue_keptBy _ _ c _)).trans (State.beginReturn_keptBy _ _ i _)
    · exact (k.trans (State.missCue_keptBy _ _ c _)).trans (State.moveEnd_keptBy _ _ i)
  unfold State.failCue
  dsimp only
  refine stopped _ ?_
  split
  · split
    · exact (h.trans (State.dowserClose_kept _ _)).trans (State.motorOff_kept _ _)
    · exact h.trans (State.dowserClose_kept _ _)
  · exact h

theorem State.failClose_kept (s : State) (i : Isl) : Kept s (s.failClose i) := by
  have h := s.raiseIsland_keptBy Source.kept i .mirrorFault .urgent none
  unfold State.failClose
  dsimp only
  split
  · exact h.trans (State.dowserClose_kept _ _)
  · exact h

theorem State.failCut_kept (s : State) (i : Isl) : Kept s (s.failCut i) := by
  unfold State.failCut
  split
  · exact (s.failClose_kept i).trans (State.beginReturn_keptBy _ _ i _)
  · exact (s.failClose_kept i).trans (State.moveEnd_keptBy _ _ i)

theorem State.failMove_kept (s : State) (i : Isl) : Kept s (s.failMove i) := by
  unfold State.failMove
  repeat' split
  · exact s.failCue_kept i _
  · exact s.moveEnd_keptBy _ i
  · exact s.failCut_kept i
  · exact (s.failClose_kept i).trans (State.moveEnd_keptBy _ _ i)
  · exact s.moveEnd_keptBy _ i

/-! ### Head evaluation and the engine's watch (Arming.lean) -/

theorem State.beginPath_keptBy (g : Source → Source) (s : State) (i : Isl) (c : CueRec) :
    KeptBy g s (s.beginPath i c) := by
  unfold State.beginPath
  repeat' split
  · exact (s.withdraw_keptBy g _).trans (State.askSlot_keptBy g _ i _ _)
  · exact (s.withdraw_keptBy g _).trans (State.computeStart_keptBy g _ i _)
  · exact (s.modEng_keptBy g i _).trans (State.modCue_keptBy g _ _ (fun _ => by rfl))
  all_goals exact KeptBy.refl g s

theorem State.arm_keptBy (g : Source → Source) (s : State) (i : Isl) (c : CueRec) : KeptBy g s (s.arm i c) :=
  ((s.modCue_keptBy g _ (fun _ => by rfl)).trans (State.modEng_keptBy g _ i _)).trans (State.beginPath_keptBy g _ i c)

theorem State.evaluate_keptBy (g : Source → Source) (i : Isl) (fuel : Nat) (s : State) :
    KeptBy g s (State.evaluate i fuel s) := by
  induction fuel generalizing s with
  | zero => exact KeptBy.refl g s
  | succ fuel ih =>
    unfold State.evaluate
    repeat' split
    · exact KeptBy.refl g s
    · exact ((s.missCue_keptBy g _ _).trans (ih _)).trans (State.raiseIsland_keptBy g _ i _ _ _)
    · exact s.modCue_keptBy g _ (fun _ => by rfl)
    · exact s.arm_keptBy g i _
    · exact (s.disarm_keptBy g i _).trans (ih _)
    all_goals exact KeptBy.refl g s

theorem State.loseOutgoing_kept (s : State) (i : Isl) (c : CueRec) (x : Src) : Kept s (s.loseOutgoing i c x) :=
  (KeptBy.ite (s.dowserOpen_kept x) (s.motorOff_kept x)).trans (State.endFlight_keptBy _ _ i c _)

theorem State.followSpeed_keptBy (g : Source → Source) (s : State) (i : Isl) (c : CueRec) (x : Src) :
    KeptBy g s (s.followSpeed i c x) := by
  unfold State.followSpeed
  repeat' split
  all_goals first
    | exact KeptBy.refl g s
    | exact (s.modEng_keptBy g i _).trans (State.modCue_keptBy g _ _ (fun _ => by rfl))

theorem State.fireReady_kept (s : State) (i : Isl) (x : Src) : Kept s (s.fireReady i x) := by
  unfold State.fireReady
  repeat' split
  all_goals first
    | exact KeptBy.refl _ s
    | exact s.fire_kept i _ _ _

theorem State.watch_kept (s : State) (i : Isl) : Kept s (s.watch i) := by
  unfold State.watch
  split
  · exact KeptBy.refl _ s
  · split
    · exact KeptBy.refl _ s
    · split
      · split
        · exact s.endFlight_keptBy _ i _ _
        · split
          · exact s.loseOutgoing_kept i _ _
          · exact (s.followSpeed_keptBy _ i _ _).trans (State.fireReady_kept _ i _)
      · exact KeptBy.refl _ s

theorem State.settle_kept (s : State) (i : Isl) : Kept s (s.settle i) :=
  (s.watch_kept i).trans (State.evaluate_keptBy _ i _ _)

theorem State.settleOf_kept (s : State) (x : Src) : Kept s (s.settleOf x) := by
  unfold State.settleOf
  split
  · exact s.settle_kept _
  · exact KeptBy.refl _ s

/-! ### The grant (Arming.lean) -/

theorem State.missLate_kept (s : State) (i : Isl) (c : CueRec) (x : Src) : Kept s (s.missLate i c x) := by
  unfold State.missLate
  dsimp only
  refine KeptBy.trans ?_ (State.raiseIsland_keptBy _ _ i _ _ _)
  refine KeptBy.trans ?_ (State.settle_kept _ i)
  refine KeptBy.trans ?_ (State.engIdle_keptBy _ _ i)
  refine KeptBy.trans ?_ (State.endCue_keptBy _ _ c (fun _ => by rfl))
  exact s.motorOff_kept x

theorem State.takeGrant_kept (s : State) (i : Isl) (x : Src) : Kept s (s.takeGrant i x) := by
  unfold State.takeGrant
  split
  · exact KeptBy.refl _ s
  · split
    · split
      · exact s.startProceeds_kept i _ _ _
      · split
        · exact s.startProceeds_kept i _ _ _
        · split
          · exact s.missLate_kept i _ x
          · exact s.startProceeds_kept i _ _ _
          · exact s.startProceeds_kept i _ _ _
          · exact s.startProceeds_kept i _ _ _
    · exact KeptBy.refl _ s

/-! ### The fault logic (Emergency.lean) -/

theorem State.preempt_kept (s : State) (i : Isl) : Kept s (s.preempt i) := by
  unfold State.preempt
  split
  · exact KeptBy.refl _ s
  · dsimp only
    split
    · refine KeptBy.trans ?_ (State.endFlight_keptBy _ _ i _ _)
      exact KeptBy.ite (s.withdraw_keptBy _ _) (KeptBy.ite (KeptBy.refl _ s) (s.motorOff_kept _))
    · exact s.endFlight_keptBy _ i _ _

theorem State.takeEmergency_kept (s : State) (i : Isl) : Kept s (s.takeEmergency i) := by
  have h : Kept s (if (s.eng i).carrying = true then s.preempt i else s) :=
    KeptBy.ite (s.preempt_kept i) (KeptBy.refl _ s)
  unfold State.takeEmergency
  dsimp only
  split
  · exact (((h.trans (State.modEng_keptBy _ _ i _)).trans (State.attemptTo_keptBy _ _ i _)).trans
      (State.dowserOpen_kept _ _)).trans (State.raiseIsland_keptBy _ _ i _ _ _)
  · exact h.trans (State.raiseIsland_keptBy _ _ i _ _ _)

theorem State.judge_kept (s : State) (i : Isl) : Kept s (s.judge i) :=
  KeptBy.ite (s.takeEmergency_kept i) (KeptBy.refl _ s)

theorem State.judgeAt_kept (s : State) (x : Src) : Kept s (s.judgeAt x) := by
  unfold State.judgeAt
  repeat' split
  · exact s.judge_kept _
  all_goals exact KeptBy.refl _ s

theorem State.testSource_keptByFaults (s : State) (x : Src) : KeptByFaults s (s.testSource x) :=
  (s.testConds_keptByFaults x).trans (KeptBy.ite (State.judgeAt_kept _ x).byFaults (KeptBy.refl _ _))

theorem State.takeLockingFault_keptByFaults (s : State) (x : Src) (lock : LockCause) (cause : Cause) (sev : Severity)
    (captured : Option Int) (emergencyClass : Bool) :
    KeptByFaults s (s.takeLockingFault x lock cause sev captured emergencyClass) :=
  (((s.setLockout_keptByFaults x lock).trans (State.raise_keptBy _ _ _ _ _ _ _)).trans
    (KeptBy.ite (State.judgeAt_kept _ x).byFaults (KeptBy.refl _ _))).trans (State.condEnds_kept _ x).byFaults

theorem State.becomesLive_keptByFaults (s : State) (x : Src) : KeptByFaults s (s.becomesLive x) := by
  have h : Kept s (s.dropTail x) := State.modSrc_keptBy (fun _ => by rfl)
  have k : KeptByFaults (s.dropTail x) ((s.dropTail x).raiseLampAgain x) :=
    KeptBy.ite ((State.setLockout_keptByFaults _ x _).trans (State.raiseSource_keptBy _ _ _ _ _)) (KeptBy.refl _ _)
  exact (h.byFaults.trans k).trans (State.testConds_keptByFaults _ x)

/-- An operation on the source there may be keeps what the operation on a source keeps. -/
theorem KeptBy.onSome {g : Source → Source} {s : State} {op : State → Src → State} (h : ∀ x, KeptBy g s (op s x))
    (o : Option Src) : KeptBy g s (match o with | some x => op s x | none => s) := by
  cases o
  · exact KeptBy.refl g s
  · exact h _

theorem State.liveChanged_keptByFaults (s : State) (i : Isl) (old : Option Src) :
    KeptByFaults s (s.liveChanged i old) := by
  unfold State.liveChanged
  dsimp only
  refine KeptBy.trans ?_ (State.settle_kept _ i).byFaults
  refine KeptBy.trans ?_ (State.judge_kept _ i).byFaults
  refine KeptBy.trans (s.settle_kept i).byFaults ?_
  generalize s.settle i = u
  have h : KeptByFaults u (match u.live i with | some x => u.becomesLive x | none => u) :=
    KeptBy.onSome (op := State.becomesLive) (fun x => u.becomesLive_keptByFaults x) (u.live i)
  exact h.trans (KeptBy.onSome (op := State.testConds) (fun x => State.testConds_keptByFaults _ x) old)

theorem State.handLive_keptByFaults (s : State) (i : Isl) (old : Option Src) :
    KeptByFaults s (s.handLive i old) := by
  unfold State.handLive
  split
  · exact (State.post_keptBy _ _ _).trans (State.liveChanged_keptByFaults _ i old)
  · exact (s.settle_kept i).byFaults

end Sys2Proof.Machine
end

