-- ==== Sys2Proof/Laws/Falls.lean ====
section
/-! SUPPORT. One lemma for each shared operation up to the handing on of a live change: what it may do to the outputs of the
sources (`Falls`). The moves' ends (`confirm`, `tailRequest`), which set tail stops, are not among them. -/

namespace Sys2Proof.Machine

/-! ### The relation -/

theorem Source.FallsTo.refl (v : Source) : v.FallsTo v :=
  ⟨fun h => ⟨h, rfl, rfl⟩, id, .inr rfl, id, .inr rfl, .inr rfl, id, fun h k => ⟨h, k⟩⟩

theorem Source.FallsTo.trans {u v w : Source} (h : u.FallsTo v) (k : v.FallsTo w) : u.FallsTo w where
  motor m := by
    obtain ⟨m, b, r⟩ := k.motor m
    obtain ⟨m, b', r'⟩ := h.motor m
    exact ⟨m, b.trans b', r.trans r'⟩
  band b := h.band (k.band b)
  tailStop := k.tailStop.elim .inl (fun e => by rw [e]; exact h.tailStop)
  inch i := h.inch (k.inch i)
  inchTarget := k.inchTarget.elim .inl (fun e => by rw [e]; exact h.inchTarget)
  inchTimer := k.inchTimer.elim .inl (fun e => by rw [e]; exact h.inchTimer)
  barred b := k.barred (h.barred b)
  dowser d b := by
    obtain ⟨d, b⟩ := k.dowser d b
    exact h.dowser d b

theorem Falls.refl (s : State) : Falls s s := fun _ => .refl _

theorem Falls.trans {s t u : State} (h : Falls s t) (k : Falls t u) : Falls s u := fun x => (h x).trans (k x)

/-- An operation that leaves every source record as it was. -/
theorem Falls.of {s t : State} (h : KeptBy id s t) : Falls s t := fun x => by
  rw [show t.src x = s.src x from h.sources x]
  exact .refl _

theorem Falls.ite {s t u : State} {b : Prop} [Decidable b] (h : Falls s t) (k : Falls s u) :
    Falls s (if b then t else u) := by
  split <;> assumption

theorem Falls.foldl {α : Type} {op : State → α → State} (h : ∀ s a, Falls s (op s a)) (l : List α) (s : State) :
    Falls s (l.foldl op s) := by
  induction l generalizing s with
  | nil => exact Falls.refl s
  | cons a l ih => exact (h s a).trans (ih (op s a))

theorem Falls.onSome {s : State} {op : State → Src → State} (h : ∀ x, Falls s (op s x)) (o : Option Src) :
    Falls s (match o with | some x => op s x | none => s) := by
  cases o
  · exact Falls.refl s
  · exact h _

theorem State.setSrc_falls {s : State} {x : Src} {v : Source} (h : (s.src x).FallsTo v) : Falls s (s.setSrc x v) :=
  fun y => by
    rw [State.setSrc_src]
    split
    · subst y; exact h
    · exact .refl _

theorem State.modSrc_falls {s : State} {x : Src} {f : Source → Source} (h : (s.src x).FallsTo (f (s.src x))) :
    Falls s (s.modSrc x f) :=
  (State.setSrc_falls h).trans (Falls.of (State.postIf_keptBy _ _ _ _))

/-! ### The outputs -/

theorem Source.FallsTo.motorOff (v : Source) : v.FallsTo v.motorOff :=
  ⟨fun h => absurd h Bool.false_ne_true, fun h => absurd h Bool.false_ne_true, .inl rfl, id, .inr rfl, .inr rfl, id,
    fun h k => ⟨h, k⟩⟩

theorem Source.FallsTo.dowserClose (v : Source) : v.FallsTo { v with dowser := false } :=
  ⟨fun h => ⟨h, rfl, rfl⟩, id, .inr rfl, id, .inr rfl, .inr rfl, id, fun h => absurd h Bool.false_ne_true⟩

theorem Source.FallsTo.dowserOpen {v : Source} (b : ¬v.openBarred = true) : v.FallsTo { v with dowser := true } :=
  ⟨fun h => ⟨h, rfl, rfl⟩, id, .inr rfl, id, .inr rfl, .inr rfl, id, fun _ k => absurd k b⟩

theorem Source.FallsTo.inchOff (v : Source) : v.FallsTo v.inchOff :=
  ⟨fun h => ⟨h, rfl, rfl⟩, id, .inr rfl, fun h => absurd h Bool.false_ne_true, .inl rfl, .inl rfl, id, fun h k => ⟨h, k⟩⟩

theorem State.putCond_falls (s : State) (x : Src) (k : Cond) (b : Bool) : Falls s (s.putCond x k b) :=
  State.setSrc_falls ⟨fun h => ⟨h, rfl, rfl⟩, id, .inr rfl, id, .inr rfl, .inr rfl, id, fun h k => ⟨h, k⟩⟩

theorem State.condEnd_falls (s : State) (x : Src) (k : Cond) : Falls s (s.condEnd x k) := by
  unfold State.condEnd
  split
  · exact (s.putCond_falls x k false).trans (Falls.of (State.endAlarm_keptBy _ _ _ _))
  · exact Falls.refl s

theorem State.condEnds_falls (s : State) (x : Src) : Falls s (s.condEnds x) :=
  Falls.foldl (fun s k => s.condEnd_falls x k) _ s

theorem State.motorCut_falls (s : State) (x : Src) : Falls s (s.motorCut x) := by
  unfold State.motorCut
  split
  · exact (State.modSrc_falls (Source.FallsTo.motorOff _)).trans (Falls.of (State.release_keptBy _ _ x))
  · exact Falls.of (s.withdraw_keptBy _ x)

theorem State.motorOff_falls (s : State) (x : Src) : Falls s (s.motorOff x) :=
  (s.motorCut_falls x).trans (State.condEnds_falls _ x)

theorem State.dowserClose_falls (s : State) (x : Src) : Falls s (s.dowserClose x) :=
  State.modSrc_falls (Source.FallsTo.dowserClose _)

theorem State.dowserOpen_falls (s : State) (x : Src) : Falls s (s.dowserOpen x) := by
  unfold State.dowserOpen
  split
  · exact Falls.refl s
  · rename_i h
    exact State.modSrc_falls (Source.FallsTo.dowserOpen h)

theorem State.inchOff_falls (s : State) (x : Src) : Falls s (s.inchOff x) :=
  State.modSrc_falls (Source.FallsTo.inchOff _)

theorem State.modSrc_src (s : State) (x y : Src) (f : Source → Source) :
    (s.modSrc x f).src y = if y = x then f (s.src x) else s.src y := by
  unfold State.modSrc
  rw [show ∀ u : State, ∀ b m, (u.postIf b m).src y = u.src y from fun u b m => (u.postIf_keptBy id b m).sources y]
  exact State.setSrc_src _ _ _ _

theorem State.motorCut_src (s : State) (x y : Src) :
    (s.motorCut x).src y = if y = x ∧ (s.src x).motor = true then (s.src x).motorOff else s.src y := by
  unfold State.motorCut
  split
  · rename_i h
    rw [show ∀ u : State, (u.release x).src y = u.src y from fun u => (u.release_keptBy id x).sources y]
    rw [State.modSrc_src]
    by_cases e : y = x <;> simp [e, h]
  · rename_i h
    rw [show (s.withdraw x).src y = s.src y from (s.withdraw_keptBy id x).sources y]
    simp [h]

/-- What the setting of a lockout leaves of a source record (R15). -/
theorem State.setLockout_src (s : State) (x y : Src) (c : LockCause) (h : (s.src x).lockout = none) :
    (s.setLockout x c).src y =
      if y = x then
        { (if (s.src x).motor = true then (s.src x).motorOff else s.src x).inchOff with
          lockout := some c, dowser := false, tailStop := none }
      else s.src y := by
  unfold State.setLockout
  dsimp only
  rw [if_neg (by simp [h]), State.modSrc_src]
  rw [show ∀ u : State, (u.withdraw x).src y = u.src y from fun u => (u.withdraw_keptBy id x).sources y]
  rw [show ∀ u : State, (u.withdraw x).src x = u.src x from fun u => (u.withdraw_keptBy id x).sources x]
  rw [State.motorCut_src, State.motorCut_src, State.modSrc_src, State.modSrc_src]
  by_cases e : y = x
  · subst y
    cases m : (s.src x).motor <;> simp [m, Source.inchOff, Source.motorOff]
  · simp [e]

theorem State.setLockout_falls (s : State) (x : Src) (c : LockCause) : Falls s (s.setLockout x c) := by
  cases h : (s.src x).lockout with
  | some k =>
    unfold State.setLockout
    rw [if_pos (by simp [h])]
    exact Falls.refl s
  | none =>
    intro y
    rw [s.setLockout_src x y c h]
    split
    · subst y
      cases m : (s.src x).motor
      · exact ⟨fun h => absurd h (by simp [m, Source.inchOff]), id, .inl rfl, fun h => absurd h Bool.false_ne_true, .inl rfl, .inl rfl,
          fun _ => by simp [Source.openBarred], fun h => absurd h Bool.false_ne_true⟩
      · exact ⟨fun h => absurd h (by simp [Source.motorOff, Source.inchOff]), fun h => absurd h Bool.false_ne_true, .inl rfl,
          fun h => absurd h Bool.false_ne_true, .inl rfl, .inl rfl, fun _ => by simp [Source.openBarred], fun h => absurd h Bool.false_ne_true⟩
    · exact .refl _

theorem State.condBegin_falls (s : State) (x : Src) (k : Cond) : Falls s (s.condBegin x k) := by
  refine (s.putCond_falls x k true).trans (Falls.trans ?_ (Falls.of (State.raiseSource_keptBy _ _ _ _ _)))
  exact Falls.ite (State.setLockout_falls _ x _) (Falls.refl _)

theorem State.testConds_falls (s : State) (x : Src) : Falls s (s.testConds x) :=
  (Falls.foldl (fun s k => s.condBegin_falls x k) _ s).trans (State.condEnds_falls _ x)

theorem State.fire_falls (s : State) (i : Isl) (c : CueRec) (notAtSpeed held : Bool) :
    Falls s (s.fire i c notAtSpeed held) := by
  unfold State.fire
  split
  · exact Falls.refl s
  · exact (((Falls.of (s.modCue_keptBy _ _ (fun _ => by rfl))).trans (Falls.of (State.modEng_keptBy _ _ i _))).trans
      (Falls.of (State.attemptTo_keptBy _ _ i _))).trans (State.dowserOpen_falls _ _)

theorem State.fireStop_falls (s : State) (i : Isl) (c : CueRec) : Falls s (s.fireStop i c) :=
  ((s.motorOff_falls _).trans (Falls.of (State.endCue_keptBy _ _ c (fun _ => by rfl)))).trans (Falls.of (State.engIdle_keptBy _ _ i))

theorem State.missNotReady_falls (s : State) (i : Isl) (c : CueRec) (x : Src) : Falls s (s.missNotReady i c x) :=
  ((s.motorOff_falls _).trans (Falls.of (State.endCue_keptBy _ _ c (fun _ => by rfl)))).trans (Falls.of (State.engIdle_keptBy _ _ i))

theorem State.decideRolling_falls (s : State) (i : Isl) (c : CueRec) : Falls s (s.decideRolling i c) := by
  unfold State.decideRolling
  split
  · exact s.fire_falls i c _ _
  · exact Falls.of (s.modEng_keptBy _ i _)
  · exact s.missNotReady_falls i c _
  · exact Falls.refl s

theorem State.decide_falls (s : State) (i : Isl) (c : CueRec) : Falls s (s.decide i c) := by
  unfold State.decide
  split
  · exact Falls.of (s.modEng_keptBy _ i _)
  · exact s.decideRolling_falls i c
  · exact s.fire_falls i c _ _
  all_goals exact Falls.refl s

theorem State.startProceeds_falls (s : State) (i : Isl) (c : CueRec) (late held : Bool) :
    Falls s (s.startProceeds i c late held) := by
  have h := (Falls.of (s.modCue_keptBy id c.id (f := fun r =>
    { r with state := .rolling, slotRequested := false, lateStart := r.lateStart || late }) (fun _ => by rfl))).trans
    (Falls.of (State.modEng_keptBy _ _ i (fun e => { e with state := .rolling, holdPicture := e.holdPicture || held })))
  unfold State.startProceeds
  dsimp only
  split
  · exact h.trans (State.decideRolling_falls _ i c)
  · exact h

theorem State.failCue_falls (s : State) (i : Isl) (c : CueRec) : Falls s (s.failCue i c) := by
  have h := Falls.of (s.raiseIsland_keptBy id i .mirrorFault .urgent (some c.id))
  have stopped : ∀ u : State, Falls s u → Falls s (match (s.eng i).returnPos with
      | some k => (u.missCue c .mirror).beginReturn i k
      | none => (u.missCue c .mirror).moveEnd i) := by
    intro u k
    split
    · exact (k.trans (Falls.of (State.missCue_keptBy _ _ c _))).trans (Falls.of (State.beginReturn_keptBy _ _ i _))
    · exact (k.trans (Falls.of (State.missCue_keptBy _ _ c _))).trans (Falls.of (State.moveEnd_keptBy _ _ i))
  unfold State.failCue
  dsimp only
  refine stopped _ ?_
  split
  · split
    · exact (h.trans (State.dowserClose_falls _ _)).trans (State.motorOff_falls _ _)
    · exact h.trans (State.dowserClose_falls _ _)
  · exact h

theorem State.failClose_falls (s : State) (i : Isl) : Falls s (s.failClose i) := by
  have h := Falls.of (s.raiseIsland_keptBy id i .mirrorFault .urgent none)
  unfold State.failClose
  dsimp only
  split
  · exact h.trans (State.dowserClose_falls _ _)
  · exact h

theorem State.failCut_falls (s : State) (i : Isl) : Falls s (s.failCut i) := by
  unfold State.failCut
  split
  · exact (s.failClose_falls i).trans (Falls.of (State.beginReturn_keptBy _ _ i _))
  · exact (s.failClose_falls i).trans (Falls.of (State.moveEnd_keptBy _ _ i))

theorem State.failMove_falls (s : State) (i : Isl) : Falls s (s.failMove i) := by
  unfold State.failMove
  repeat' split
  · exact s.failCue_falls i _
  · exact Falls.of (s.moveEnd_keptBy _ i)
  · exact s.failCut_falls i
  · exact (s.failClose_falls i).trans (Falls.of (State.moveEnd_keptBy _ _ i))
  · exact Falls.of (s.moveEnd_keptBy _ i)

theorem State.loseOutgoing_falls (s : State) (i : Isl) (c : CueRec) (x : Src) : Falls s (s.loseOutgoing i c x) :=
  (Falls.ite (s.dowserOpen_falls x) (s.motorOff_falls x)).trans (Falls.of (State.endFlight_keptBy _ _ i c _))

theorem State.fireReady_falls (s : State) (i : Isl) (x : Src) : Falls s (s.fireReady i x) := by
  unfold State.fireReady
  repeat' split
  all_goals first
    | exact Falls.refl s
    | exact s.fire_falls i _ _ _

theorem State.watch_falls (s : State) (i : Isl) : Falls s (s.watch i) := by
  unfold State.watch
  split
  · exact Falls.refl s
  · split
    · exact Falls.refl s
    · split
      · split
        · exact Falls.of (s.endFlight_keptBy _ i _ _)
        · split
          · exact s.loseOutgoing_falls i _ _
          · exact (Falls.of (s.followSpeed_keptBy _ i _ _)).trans (State.fireReady_falls _ i _)
      · exact Falls.refl s

theorem State.settle_falls (s : State) (i : Isl) : Falls s (s.settle i) :=
  (s.watch_falls i).trans (Falls.of (State.evaluate_keptBy _ i _ _))

theorem State.missLate_falls (s : State) (i : Isl) (c : CueRec) (x : Src) : Falls s (s.missLate i c x) := by
  unfold State.missLate
  dsimp only
  refine Falls.trans ?_ (Falls.of (State.raiseIsland_keptBy _ _ i _ _ _))
  refine Falls.trans ?_ (State.settle_falls _ i)
  refine Falls.trans ?_ (Falls.of (State.engIdle_keptBy _ _ i))
  refine Falls.trans ?_ (Falls.of (State.endCue_keptBy _ _ c (fun _ => by rfl)))
  exact s.motorOff_falls x

theorem State.takeGrant_falls (s : State) (i : Isl) (x : Src) : Falls s (s.takeGrant i x) := by
  unfold State.takeGrant
  split
  · exact Falls.refl s
  · split
    · split
      · exact s.startProceeds_falls i _ _ _
      · split
        · exact s.startProceeds_falls i _ _ _
        · split
          · exact s.missLate_falls i _ x
          · exact s.startProceeds_falls i _ _ _
          · exact s.startProceeds_falls i _ _ _
          · exact s.startProceeds_falls i _ _ _
    · exact Falls.refl s

theorem State.settleOf_falls (s : State) (x : Src) : Falls s (s.settleOf x) := by
  unfold State.settleOf
  split
  · exact s.settle_falls _
  · exact Falls.refl s

theorem State.preempt_falls (s : State) (i : Isl) : Falls s (s.preempt i) := by
  unfold State.preempt
  split
  · exact Falls.refl s
  · dsimp only
    split
    · refine Falls.trans ?_ (Falls.of (State.endFlight_keptBy _ _ i _ _))
      exact Falls.ite (Falls.of (s.withdraw_keptBy _ _)) (Falls.ite (Falls.refl s) (s.motorOff_falls _))
    · exact Falls.of (s.endFlight_keptBy _ i _ _)

theorem State.takeEmergency_falls (s : State) (i : Isl) : Falls s (s.takeEmergency i) := by
  have h : Falls s (if (s.eng i).carrying = true then s.preempt i else s) :=
    Falls.ite (s.preempt_falls i) (Falls.refl s)
  unfold State.takeEmergency
  dsimp only
  split
  · exact (((h.trans (Falls.of (State.modEng_keptBy _ _ i _))).trans (Falls.of (State.attemptTo_keptBy _ _ i _))).trans
      (State.dowserOpen_falls _ _)).trans (Falls.of (State.raiseIsland_keptBy _ _ i _ _ _))
  · exact h.trans (Falls.of (State.raiseIsland_keptBy _ _ i _ _ _))

theorem State.judge_falls (s : State) (i : Isl) : Falls s (s.judge i) :=
  Falls.ite (s.takeEmergency_falls i) (Falls.refl s)

theorem State.judgeAt_falls (s : State) (x : Src) : Falls s (s.judgeAt x) := by
  unfold State.judgeAt
  repeat' split
  · exact s.judge_falls _
  all_goals exact Falls.refl s

theorem State.testSource_falls (s : State) (x : Src) : Falls s (s.testSource x) :=
  (s.testConds_falls x).trans (Falls.ite (State.judgeAt_falls _ x) (Falls.refl _))

theorem State.takeLockingFault_falls (s : State) (x : Src) (lock : LockCause) (cause : Cause) (sev : Severity)
    (captured : Option Int) (emergencyClass : Bool) :
    Falls s (s.takeLockingFault x lock cause sev captured emergencyClass) :=
  (((s.setLockout_falls x lock).trans (Falls.of (State.raise_keptBy _ _ _ _ _ _ _))).trans
    (Falls.ite (State.judgeAt_falls _ x) (Falls.refl _))).trans (State.condEnds_falls _ x)

theorem State.becomesLive_falls (s : State) (x : Src) : Falls s (s.becomesLive x) := by
  have h : Falls s (s.dropTail x) := State.modSrc_falls
    ⟨fun h => ⟨h, rfl, rfl⟩, id, .inl rfl, id, .inr rfl, .inr rfl, id, fun h k => ⟨h, k⟩⟩
  have k : Falls (s.dropTail x) ((s.dropTail x).raiseLampAgain x) :=
    Falls.ite ((State.setLockout_falls _ x _).trans (Falls.of (State.raiseSource_keptBy _ _ _ _ _))) (Falls.refl _)
  exact (h.trans k).trans (State.testConds_falls _ x)

theorem State.liveChanged_falls (s : State) (i : Isl) (old : Option Src) :
    Falls s (s.liveChanged i old) := by
  unfold State.liveChanged
  dsimp only
  refine Falls.trans ?_ (State.settle_falls _ i)
  refine Falls.trans ?_ (State.judge_falls _ i)
  refine Falls.trans (s.settle_falls i) ?_
  generalize s.settle i = u
  have h : Falls u (match u.live i with | some x => u.becomesLive x | none => u) :=
    Falls.onSome (op := State.becomesLive) (fun x => u.becomesLive_falls x) (u.live i)
  exact h.trans (Falls.onSome (op := State.testConds) (fun x => State.testConds_falls _ x) old)

theorem State.handLive_falls (s : State) (i : Isl) (old : Option Src) :
    Falls s (s.handLive i old) := by
  unfold State.handLive
  split
  · exact (Falls.of (State.post_keptBy _ _ _)).trans (State.liveChanged_falls _ i old)
  · exact (s.settle_falls i)

end Sys2Proof.Machine
end

