-- ==== Sys2Proof/Laws/Link.lean ====
section
/-! SUPPORT. What a port's taking of a command and its answer change: the fields of an answered state, and the three ways a command
frame ends. -/

namespace Sys2Proof.Machine

variable (s : State) (p q : Link) (code : Byte) (st : Status) (data : List Byte)

@[simp] theorem State.answered_sources : (s.answered p code st data).sources = s.sources := by
  cases p <;> rfl
@[simp] theorem State.answered_maps : (s.answered p code st data).maps = s.maps := by cases p <;> rfl
@[simp] theorem State.answered_cues : (s.answered p code st data).cues = s.cues := by cases p <;> rfl
@[simp] theorem State.answered_rundowns : (s.answered p code st data).rundowns = s.rundowns := by cases p <;> rfl
@[simp] theorem State.answered_arbiter : (s.answered p code st data).arbiter = s.arbiter := by cases p <;> rfl
@[simp] theorem State.answered_islands : (s.answered p code st data).islands = s.islands := by cases p <;> rfl
@[simp] theorem State.answered_engines : (s.answered p code st data).engines = s.engines := by cases p <;> rfl
@[simp] theorem State.answered_alarms : (s.answered p code st data).alarms = s.alarms := by cases p <;> rfl
@[simp] theorem State.answered_unitAddress : (s.answered p code st data).unitAddress = s.unitAddress := by cases p <;> rfl
@[simp] theorem State.answered_primaryLink : (s.answered p code st data).primaryLink = s.primaryLink := by cases p <;> rfl
@[simp] theorem State.answered_resetAsserted : (s.answered p code st data).resetAsserted = s.resetAsserted := by
  cases p <;> rfl
@[simp] theorem State.answered_now : (s.answered p code st data).now = s.now := by cases p <;> rfl
@[simp] theorem State.answered_pending : (s.answered p code st data).pending = s.pending := by cases p <;> rfl

/-- The answering port stands in ANSWER with its response; its notices and enables are as they were. -/
theorem State.answered_port_self : (s.answered p code st data).port p
    = { (s.port p).answering with response := responseFrame s.unitAddress code st data } := by cases p <;> rfl

/-- The other port is as it was. -/
theorem State.answered_port_other (h : q ≠ p) : (s.answered p code st data).port q = s.port q := by
  cases p <;> cases q <;> first | rfl | exact absurd rfl h

/-- Taking a frame changes the port alone. -/
theorem State.enterAnswer_respond : (s.enterAnswer p).respond p code st data = s.answered p code st data := rfl

/-- A port that cannot take a frame is left as it is. -/
theorem State.runCommand_of_not_takes (c : Command) (h : s.takes p = false) : s.runCommand c p data = s := by
  simp [State.runCommand, h]

/-- A frame whose data have another length than the command's layout is answered BAD_LENGTH (R162). -/
theorem State.runCommand_of_bad_length (c : Command) (ht : s.takes p = true) (h : data.length ∉ c.lengths) :
    s.runCommand c p data = s.answered p c.code .badLength [] := by
  simp [State.runCommand, ht, Command.reply, h, State.refuse, Reply.send, State.answered]

/-- A frame of the right length is carried out by its owning block and answered with the block's reply (R162, R163). -/
theorem State.runCommand_of_takes (c : Command) (ht : s.takes p = true) (h : data.length ∈ c.lengths) :
    s.runCommand c p data = (c.body p data (s.enterAnswer p)).send p c.code := by
  simp [State.runCommand, ht, Command.reply, h]

/-- A reply that refuses is the answer of its status over the state before the command. -/
theorem State.refuse_send : ((s.enterAnswer p).refuse st).send p code = s.answered p code st [] := rfl

/-- The first failing check of a command gives its refusal. -/
theorem State.checked_cons (fails : Bool) (rest : List (Bool × Status)) (run : Reply) :
    s.checked ((fails, st) :: rest) run = if fails then s.refuse st else s.checked rest run := rfl

@[simp] theorem State.checked_nil (run : Reply) : s.checked [] run = run := rfl

/-- When every check holds, the command is carried out. -/
theorem State.checked_of_all (checks : List (Bool × Status)) (run : Reply) (h : ∀ c ∈ checks, c.1 = false) :
    s.checked checks run = run := by
  induction checks with
  | nil => rfl
  | cons c rest ih =>
    rw [show c = (c.1, c.2) from rfl, State.checked_cons, h c (by simp)]
    simpa using ih fun d hd => h d (by simp [hd])

/-- A command whose checks all hold, or its refusal: nothing else comes of `checked`. -/
theorem State.checked_cases (checks : List (Bool × Status)) (run : Reply) :
    s.checked checks run = run ∨ ∃ st, s.checked checks run = s.refuse st := by
  induction checks with
  | nil => exact .inl rfl
  | cons c rest ih =>
    rw [show c = (c.1, c.2) from rfl, State.checked_cons]
    split
    · exact .inr ⟨_, rfl⟩
    · exact ih

end Sys2Proof.Machine
end

