-- ==== Sys2Proof/Laws/Resolve.lean ====
section
/-! SUPPORT. What the storing of a fresh outcome and a map change leave as they were: all that a head evaluation leaves, but for
the cue records (`FollowsButCues`), and for a map change the source's map. -/

namespace Sys2Proof.Machine

/-- All that `Follows` says, but for the cue records. -/
def FollowsButCues (s t : State) : Prop := Follows { s with cues := t.cues } t

theorem FollowsButCues.of {s t : State} (h : Follows s t) : FollowsButCues s t :=
  have hp : ∀ p, (t.port p).kept = (({ s with cues := t.cues } : State).port p).kept := fun p => match p with
    | .desk => h.1.ports .desk
    | .panel => h.1.ports .panel
  ⟨{ h.1 with ports := hp, cues := .refl _ }, h.2⟩

theorem FollowsButCues.refl (s : State) : FollowsButCues s s := .of ⟨KeptBy.refl _ s, Falls.refl s⟩

theorem FollowsButCues.trans {s t u : State} (h : FollowsButCues s t) (k : FollowsButCues t u) : FollowsButCues s u :=
  ⟨⟨k.1.maps.trans h.1.maps, fun x => (k.1.sources x).trans (h.1.sources x), fun i => (k.1.islands i).trans (h.1.islands i),
    fun p => match p with
      | .desk => (k.1.ports .desk).trans (h.1.ports .desk)
      | .panel => (k.1.ports .panel).trans (h.1.ports .panel), .refl _, k.1.unitAddress.trans h.1.unitAddress,
    k.1.primaryLink.trans h.1.primaryLink, k.1.strapAddress.trans h.1.strapAddress,
    k.1.strapPrimary.trans h.1.strapPrimary, k.1.resetAsserted.trans h.1.resetAsserted, k.1.now.trans h.1.now,
    k.1.pending.trans h.1.pending⟩, Falls.trans (t := t) h.2 k.2⟩

theorem FollowsButCues.foldl {α : Type} {op : State → α → State} (h : ∀ s a, FollowsButCues s (op s a)) (l : List α)
    (s : State) : FollowsButCues s (l.foldl op s) := by
  induction l generalizing s with
  | nil => exact .refl s
  | cons a l ih => exact (h s a).trans (ih (op s a))

/-- An operation that leaves every source record as it was. -/
theorem FollowsButCues.ofId {s t : State} (h : KeptBy id s t) : FollowsButCues s t :=
  .of ⟨{ h with sources := fun x => by rw [show t.src x = s.src x from h.sources x] }, Falls.of h⟩

theorem State.setCue_followsButCues (s : State) (id : Nat) (f : CueRec → CueRec) : FollowsButCues s (s.setCue id f) :=
  ⟨KeptBy.refl _ _, Falls.refl _⟩

theorem State.modCue_followsButCues (s : State) (id : Nat) (f : CueRec → CueRec) : FollowsButCues s (s.modCue id f) :=
  (s.setCue_followsButCues id f).trans (.ofId (State.postIf_keptBy _ _ _ _))

theorem State.disarmCue_followsButCues (s : State) (c : CueRec) : FollowsButCues s (s.disarmCue c) := by
  unfold State.disarmCue
  split
  · exact s.modCue_followsButCues _ _
  · exact .ofId (s.disarm_keptBy _ _ _)

/-- The storing of a fresh outcome changes cue records, and what a disarm changes. -/
theorem State.storeOutcome_followsButCues (s : State) (c : CueRec) (r : Resolution) (policyChanged : Bool) :
    FollowsButCues s (s.storeOutcome c r policyChanged) := by
  unfold State.storeOutcome
  split <;> (try split) <;>
    first
    | exact .refl s
    | exact (s.modCue_followsButCues _ _).trans (.ofId (State.armMark_keptBy _ _ _))
    | exact s.modCue_followsButCues _ _
    | exact ((s.disarmCue_followsButCues c).trans (State.modCue_followsButCues _ _ _)).trans
        (.ofId (State.armMark_keptBy _ _ _))

theorem State.settle_followsButCues (s : State) (i : Isl) : FollowsButCues s (s.settle i) :=
  .of ⟨s.settle_kept i, s.settle_falls i⟩

theorem State.takeOutcome_followsButCues (s : State) (c : CueRec) (r : Resolution) (policyChanged : Bool) :
    FollowsButCues s (s.takeOutcome c r policyChanged) := by
  unfold State.takeOutcome
  dsimp only
  split
  · exact (s.storeOutcome_followsButCues c r _).trans (State.settle_followsButCues _ _)
  · exact s.storeOutcome_followsButCues c r _

theorem State.reresolve_followsButCues (s : State) (id : Nat) : FollowsButCues s (s.reresolve id) := by
  unfold State.reresolve
  split
  · exact s.storeOutcome_followsButCues _ _ _
  · exact .refl s

theorem State.mapChanged_followsButCues (s : State) (x : Src) : FollowsButCues s (s.mapChanged x) := by
  unfold State.mapChanged
  exact ((FollowsButCues.ofId (s.post_keptBy _ _)).trans (FollowsButCues.foldl State.reresolve_followsButCues _ _)).trans
    (FollowsButCues.foldl State.settle_followsButCues _ _)

/-- A command that changes a map: nothing where the map is the old one, else the map and what follows from its change (R35). -/
theorem State.changeMap_followsButCues (s : State) (x : Src) (m : List Segment) :
    (s.map x = m ∧ s.changeMap x m = s) ∨ (s.map x ≠ m ∧ FollowsButCues (s.setMap x m) (s.changeMap x m)) := by
  unfold State.changeMap
  split
  · exact .inl ⟨‹_›, rfl⟩
  · exact .inr ⟨‹_›, State.mapChanged_followsButCues _ _⟩

end Sys2Proof.Machine
end

