-- ==== Sys2Proof/Laws/Settle.lean ====
section
/-! SUPPORT. When a settling changes nothing, and what one judgement of a head can answer. -/

namespace Sys2Proof.Machine

/-- The engine's watch is over a flight alone. -/
theorem State.watch_of_none {s : State} {i : Isl} (h : s.current i = none) : s.watch i = s := by
  simp [State.watch, h]

/-- An empty rundown has no head to judge. -/
theorem State.evaluate_of_none {s : State} {i : Isl} (n : Nat) (h : s.head i = none) : State.evaluate i n s = s := by
  cases n <;> simp [State.evaluate, h]

/-- A quiet island is settled as it stands. -/
theorem State.settle_of_quiet {s : State} {i : Isl} (h : s.quiet i) : s.settle i = s := by
  have hc : s.current i = none := by simp [State.current, h.2]
  have hh : s.head i = none := by simp [State.head, h.1]
  rw [State.settle, State.watch_of_none hc]
  exact State.evaluate_of_none _ hh

/-- A source whose island is quiet is settled as it stands. -/
theorem State.settleOf_of_quiet {s : State} {x : Src} (h : s.quietAt x) : s.settleOf x = s := by
  unfold State.settleOf
  split
  · next i hi => exact State.settle_of_quiet (h i hi)
  · rfl

/-- While the engine moves the mirror every WAITING head is blocked by it (R85). -/
theorem State.blockWaiting_of_moving {s : State} {i : Isl} {c : CueRec} (h : (s.eng i).moving = true) :
    s.blockWaiting i c = some .engineBusy := by simp [State.blockWaiting, h]

/-- With no move in progress a WAITING head is blocked by its first failing condition (R77, R79). -/
theorem State.blockWaiting_of_still {s : State} {i : Isl} {c : CueRec} (h : (s.eng i).moving = false) :
    s.blockWaiting i c = s.blockOf i c false := by simp [State.blockWaiting, h]

/-- One judgement of a WAITING head that has not passed: blocked, or armed (R76, R80). -/
theorem State.evaluate_waiting {s : State} {i : Isl} {c : CueRec} (n : Nat) (hh : s.head i = some c)
    (hw : c.state = .waiting) (hp : s.passed c = false) :
    State.evaluate i (n + 1) s = (match s.blockWaiting i c with
      | some b => s.modCue c.id (fun r => { r with blocked := some b })
      | none => s.arm i c) := by
  cases hb : s.blockWaiting i c <;> simp [State.evaluate, hh, hw, hp, hb]

/-- One judgement of a WAITING head that has passed: it ends, the next head is judged, and CUE_MISSED is raised (R82). -/
theorem State.evaluate_passed {s : State} {i : Isl} {c : CueRec} (n : Nat) (hh : s.head i = some c)
    (hw : c.state = .waiting) (hp : s.passed c = true) :
    State.evaluate i (n + 1) s
      = (State.evaluate i n (s.missCue c .passed)).raiseIsland i .cueMissed .warning (some c.id) := by
  simp [State.evaluate, hh, hw, hp]

/-- One judgement of an ARMED head: it stays, or it is disarmed and judged again (R81). -/
theorem State.evaluate_armed {s : State} {i : Isl} {c : CueRec} (n : Nat) (hh : s.head i = some c)
    (ha : c.state = .armed) :
    State.evaluate i (n + 1) s
      = if (s.blockOf i c true).isSome then State.evaluate i n (s.disarm i c) else s := by
  simp [State.evaluate, hh, ha]

/-- A head in flight, or ended, is left to the engine (R76). -/
theorem State.evaluate_flying {s : State} {i : Isl} {c : CueRec} (n : Nat) (hh : s.head i = some c)
    (hf : c.state.inFlight = true ∨ c.state.ended = true) : State.evaluate i n s = s := by
  cases n with
  | zero => rfl
  | succ n =>
    have h : c.state ≠ .waiting ∧ c.state ≠ .armed := by
      cases hc : c.state <;> simp_all [CueState.inFlight, CueState.ended]
    cases hc : c.state <;> simp_all [State.evaluate]

end Sys2Proof.Machine
end

