-- ==== Sys2Proof/Tests/Slice0.lean ====
section
/-! SUPPORT. The author's tests: ill-formed terms that the checks refuse, one or two steps of each command with results worked out
from spec/, and for each statement with hypotheses a state and operands that meet them. -/

set_option Elab.async false

namespace Sys2Proof.Tests

open Sys2Proof.Machine

/-! ### Ill-formed terms -/

theorem test_count_refuses_long_data : (Instr.unknownCommand .desk 0x7E (List.replicate 256 0)).countFits = false := by
  decide +kernel

theorem test_count_takes_255_data : (Instr.unknownCommand .desk 0x7E (List.replicate 255 0)).wf = true := by decide +kernel

theorem test_code_refuses_known_code : (Instr.unknownCommand .desk 0x32 [1]).codeUnknown = false := by decide

theorem test_action_refuses_clear : (Instr.lockout .desk [1, 2]).actionFits = false := by decide

theorem test_action_takes_set : (Instr.lockout .desk [1, 1]).wf = true := by decide

theorem test_ill_formed_is_not_wf : (Instr.unknownCommand .desk 0x32 [1]).wf = false
    ∧ (Instr.lockout .desk [1, 2]).wf = false := by decide

/-! ### Small states -/

/-- A threaded and parked film source of I1 at an input position. -/
def film (k : InPos) (p : Int) : Source :=
  { Source.powerOn with stype := .film35, island := some 0, inputPos := some k, film := true, loop := true, lamp := true,
                        pos := some p }

/-- A film source at speed. -/
def fast (k : InPos) (p : Int) : Source :=
  { film k p with motor := true, band := true, reached := true, rate := 2400, intervals := List.replicate 8 417,
                  pulseRef := some 0, silenceTimer := some 10000, dowser := true }

/-- I1 with S1 live and parked at 10, S2 parked at 0, and a ready slide unit S3. -/
def part : State :=
  (((State.reset.setSrc 0 (film 0 10)).setSrc 1 (film 1 0)).setSrc 2
      { Source.powerOn with stype := .still, island := some 0, inputPos := some 2, ready := true }).setIsl 0
    { Island.reset with mirrorLines := 1, driftTimer := none }

/-- The same with S1 at speed. -/
def onAir : State := part.setSrc 0 (fast 0 10)

/-- A CHANGEOVER 5 from S1 at frame 1000 to S2 at frame 100. -/
def cue : CueRec where
  id := 5
  island := 0
  kind := .changeover
  subject := 0
  partner := some 1
  mode := .position
  trigger := some (.absolute 1000)
  picture := some (.absolute 100)
  trim := 0
  policy := some .holdForPicture
  slipLimit := some 2
  keep := true
  state := .waiting
  resT := some 1000
  resQ := some 100
  unresolved := none
  startPoint := none
  slotRequested := false
  blocked := none
  fireO := none
  fireI := none
  fireErr := none
  shortLeader := false
  lateStart := false
  notAtSpeed := false
  heldForPicture := false
  mapChanged := false
  missCause := none
  metGrant := none

/-- A STOP 6 of S1 at frame 1000. -/
def stopCue : CueRec :=
  { cue with id := 6, kind := .stop, partner := none, picture := none, policy := none, slipLimit := none, resQ := none }

/-- A MARK 7 of S1 at frame 11, armed. -/
def markCue : CueRec :=
  { stopCue with id := 7, kind := .mark, trigger := some (.absolute 11), resT := some 11, state := .armed }

/-- One record in the cue table. -/
def holding (s : State) (c : CueRec) : State := { s with cues := [c] }

/-- A record that an engine of I1 carries, alone in its rundown. -/
def carried (s : State) (e : EngState) (c : CueRec) : State :=
  ((holding s c).setRundown 0 [c.id]).setEng 0 { Engine.idle with state := e, cue := some c.id, window := some 4000 }

/-- The cue in one of its states. -/
def inState (k : CueState) : CueRec := { cue with state := k }

/-- I1 with its engine in a move toward S2. -/
def moving (s : State) (kind : SwitchKind) (k : Nat) : State :=
  s.setEng 0 { Engine.idle with state := .switching, switchKind := some kind, drive := some 1, attempts := some k,
                                attemptTimer := some 6000, returnPos := some 0, origin := some (some 0) }

/-- A CUE switch toward S2 with the mirror BETWEEN. -/
def firing : State :=
  ((carried (onAir.setSrc 0 { fast 0 1000 with tail := 24 }) .switching
      { inState .firing with fireErr := some 3 }).setIsl 0 { Island.reset with mirrorLines := 0, driftTimer := none }).setEng 0
    { Engine.idle with state := .switching, switchKind := some .cue, cue := some 5, drive := some 1, attempts := some 1,
                       attemptTimer := some 6000, returnPos := some 0 }

/-- A grant decided for a source. -/
def owed (s : State) (x : Src) (o : Origin) : State := { s with arbiter := { s.arbiter with due := [⟨x, o⟩] } }

/-! ### Figures of the spec -/

/-- The example of R161. -/
theorem test_crc_of_the_example : crc [0x03, 0x01, 0x00] = 0x3E := by decide +kernel

/-- The examples of R29. -/
theorem test_feet_examples : feetBytes 16 (-20) = [0x80, 1, 4] ∧ feetBytes 40 5794 = [0, 144, 34]
    ∧ feetBytes 16 14400 = [0x03, 0x84, 0] := by decide +kernel

/-- The examples of R36. -/
theorem test_story_examples : resolveSpec [⟨17, 2400, 3600⟩] (.story 17 200 .atEnd) = .ok 5800
    ∧ resolveSpec [⟨17, 2400, 3600⟩] (.story 17 200 .atStart) = .ok 2600
    ∧ resolveSpec [⟨17, 2400, 3600⟩] (.story 17 3601 .atStart) = .error .outOfStory
    ∧ resolveSpec [⟨17, 2400, 3600⟩] (.story 9 0 .atStart) = .error .noTag := by
  exact ⟨rfl, rfl, rfl, rfl⟩

/-- Case A of section 5.7 and the example of R89. -/
theorem test_preroll_case_a : prerollOf 14400 192 0 (fast 0 14020) { film 1 0 with runUp := 3000, travel := 36 } 500
    = ⟨14160, 10000, false⟩ ∧ incomingTime 0 100 0 1800 = 5556 := by decide +kernel

/-- Case C of section 5.7: the slip at p_O = 14,300. -/
theorem test_slip_case_c : slipAt 10000 (fast 0 14300) 14400 14300 = 140 := by decide +kernel

/-- The rates of section 1.10. -/
theorem test_measured_rates : measuredRate (List.replicate 8 400) = 2500 ∧ measuredRate [1200] = 833
    ∧ measuredRate [1200, 900] = 952 ∧ measuredRate [440, 420, 416, 424, 420, 418, 417, 417] = 2372 := by decide +kernel

/-- The order of R104 with the pointer at S6. -/
theorem test_order_from_s6 : turnOrder 5 = [6, 7, 0, 1, 2, 3, 4, 5] := by decide

/-! ### Events of sources -/

theorem test_power_on_reads_straps : let t := onAir.after (.powerOn 5 .panel)
    t.unitAddress = 5 ∧ (t.isl 0).control = .panel ∧ (t.src 0).state = .unused ∧ (t.src 0).motor = false := by decide +kernel

/-- Section 1.10, pulse 14: AT_SPEED, the slot released, the run-up timer stopped. -/
theorem test_pulse_reaches_speed : let s := { part with now := 7000 }
    let v := { film 0 13 with motor := true, rate := 2329, pulseRef := some 7000, runupTimer := some 20000,
                              intervals := [480, 440, 420, 416, 424, 420, 418, 417] }
    let t := (({ s with arbiter := { s.arbiter with slot1 := some 0 } } : State).setSrc 0 v).after (.framePulse 0 true 417)
    (t.src 0).state = .atSpeed ∧ (t.src 0).rate = 2372 ∧ (t.src 0).pos = some 14 ∧ t.arbiter.slot1 = none
    ∧ (t.src 0).runupTimer = none := by decide +kernel

theorem test_pulse_at_the_limit_stays : let t := (part.setSrc 0 (film 0 131071)).after (.framePulse 0 true 400)
    (t.src 0).pos = some 131071 ∧ (t.alarm (.source 0) .countRange).isSome = true := by decide +kernel

/-- Section 1.10, a stall: the motor is on and the reached-speed flag set. -/
theorem test_silence_stalls : let t := onAir.after (.silenceTimeout 0)
    t.now = 10000 ∧ (t.src 0).lockout = some .stall ∧ (t.src 0).state = .parked ∧ (t.src 0).dowser = false
    ∧ (t.alarm (.source 0) .stall).map (·.severity) = some .urgent := by decide +kernel

theorem test_inch_timer_ends_inching : let v := { film 1 0 with inch := true, inchTarget := some 9, inchTimer := some 300000 }
    let t := (part.setSrc 1 v).after (.inchTimeout 1)
    (t.src 1).state = .parked ∧ (t.src 1).inchTarget = none ∧ (t.alarm (.source 1) .inchTimeout).isSome = true := by
  decide +kernel

/-- Section 6.5, at 3200 ms: S6 is no cue's I, so the alarm is a WARNING; S2 is granted after the pointer S7. -/
theorem test_runup_timer_locks_out : let v := { film 1 0 with motor := true, runupTimer := some 30000, rate := 900 }
    let a : Arbiter := ⟨some 6, some 5, [⟨3, .run⟩, ⟨1, .run⟩], [], 6⟩
    let t := (({ part with arbiter := a } : State).setSrc 5 v).after (.runupTimeout 5)
    (t.src 5).lockout = some .runupTimeout ∧ t.arbiter = ⟨some 6, none, [⟨3, .run⟩], [⟨1, .run⟩], 6⟩
    ∧ (t.alarm (.source 5) .runupTimeout).map (·.severity) = some .warning := by decide +kernel

theorem test_film_lost_on_air_breaks : let t := onAir.after (.filmSenseLost 0)
    (t.src 0).state = .unloaded ∧ (t.src 0).pos = none ∧ (t.src 0).lockout = some .filmBreak
    ∧ (t.alarm (.source 0) .filmBreak).map (·.captured) = some (some 10) := by decide +kernel

theorem test_film_lost_off_air_runs_out : let t := (part.setSrc 1 (fast 1 7)).after (.filmSenseLost 1)
    (t.src 1).lockout = none ∧ (t.src 1).motor = false ∧ (t.alarm (.source 1) .runout).isSome = true := by decide +kernel

theorem test_film_returns_threaded : let v := { film 1 0 with film := false, pos := none }
    let t := (part.setSrc 1 v).after (.filmSenseReturn 1)
    (t.src 1).state = .threaded := by decide +kernel

theorem test_lamp_out_on_air_takes_emergency :
    let t := (onAir.setIsl 0 { onAir.isl 0 with emergEnable := true, protect := some 2 }).after (.lampSenseChange 0 false)
    (t.src 0).lockout = some .lampFail ∧ (t.eng 0).switchKind = some .emergency ∧ (t.eng 0).drive = some 2
    ∧ (t.src 2).dowser = true := by decide +kernel

theorem test_loop_opens_while_running : let t := onAir.after (.loopSenseChange 0 false)
    (t.alarm (.source 0) .loopLoss).map (·.severity) = some .warning ∧ (t.src 0).motor = true := by decide +kernel

theorem test_ready_goes_away : let t := part.after (.readyInputChange 2 false)
    (t.src 2).state = .unloaded := by decide +kernel

/-! ### Mirrors and grants -/

theorem test_mirror_moved_by_hand : let t := part.after (.mirrorSenseChange 0 0b0101)
    (t.isl 0).sensed = none ∧ t.live 0 = none ∧ (t.isl 0).driftTimer = some 6000 := by decide +kernel

/-- R120: the tail of 24 frames counts from the confirm. -/
theorem test_confirm_ends_the_cue : let t := firing.after (.mirrorSenseChange 0 0b0010)
    t.live 0 = some 1 ∧ (t.src 0).tailStop = some 1024 ∧ (t.cue 5).map (·.state) = some .done ∧ t.rundown 0 = []
    ∧ (t.alarm (.island 0) .cueSlip).isSome = true := by decide +kernel

theorem test_second_attempt : let t := (moving part .cut 1).after (.mirrorAttemptTimeout 0)
    (t.eng 0).attempts = some 2 ∧ (t.eng 0).attemptTimer = some 12000 := by decide +kernel

theorem test_third_attempt_fails : let s := moving (part.setIsl 0 { part.isl 0 with mirrorLines := 0 }) .cut 3
    let t := s.after (.mirrorAttemptTimeout 0)
    (t.eng 0).state = .returning ∧ (t.eng 0).drive = some 0
    ∧ (t.alarm (.island 0) .mirrorFault).map (·.severity) = some .urgent := by decide +kernel

theorem test_drift_raises_live_none : let t := State.reset.after (.driftTimeout 2)
    (t.isl 2).liveNone = true ∧ (t.alarm (.island 2) .liveNone).map (·.severity) = some .urgent := by decide +kernel

/-- U = 3000 ms gives a run-up span of 6000 ms (R106). -/
theorem test_grant_starts_the_motor : let t := (owed (part.setSrc 1 { film 1 0 with runUp := 3000 }) 1 .run).after .slotGrant
    (t.src 1).state = .running ∧ t.arbiter.slot1 = some 1 ∧ t.arbiter.pointer = 1 ∧ (t.src 1).runupTimer = some 60000 := by
  decide +kernel

/-- Case C of section 5.7 under HOLD_FOR_PICTURE with a slip limit of 24. -/
theorem test_grant_too_late_holds_for_picture :
    let c := { inState .armed with resT := some 14400, slipLimit := some 24, slotRequested := true }
    let s := (carried (onAir.setSrc 0 (fast 0 14300)) .armed c)
    let t := (owed (s.setEng 0 { s.eng 0 with window := some 10000 }) 1 (.engine 0)).after .slotGrant
    (t.eng 0).state = .rolling ∧ (t.eng 0).holdPicture = true ∧ (t.cue 5).map (·.lateStart) = some true := by decide +kernel

/-! ### Frames -/

theorem test_sync_starts_a_frame : let t := part.after (.byteReceived .desk 0xC3)
    (t.port .desk).recv = .receive ∧ (t.port .desk).interByte = some 200 := by decide +kernel

/-- The frame of R161's example, at its check byte, is taken by the part strapped at 3. -/
theorem test_check_byte_takes_the_frame :
    let q := { Port.powerOn with recv := .receive, buf := [3, 1, 0], received := 3, check := 0x3E }
    let t := (({ part with unitAddress := 3 } : State).setPort .desk q).after (.byteReceived .desk 0x3E)
    (t.port .desk).recv = .answer ∧ (t.port .desk).response.take 5 = [0xC3, 3, 0x81, 0, 16] := by decide +kernel

theorem test_discarded_frame : let q := { Port.powerOn with recv := .receive, received := 1 }
    let t := (part.setPort .panel q).after (.frameDiscarded .panel)
    (t.port .panel).recv = .hunt := by decide +kernel

theorem test_ignored_frame : let q := { Port.powerOn with recv := .receive, received := 1 }
    let t := (part.setPort .panel q).after (.frameIgnored .panel)
    (t.port .panel).recv = .hunt := by decide +kernel

theorem test_gap_loses_the_frame : let q := { Port.powerOn with recv := .receive, interByte := some 200 }
    let t := (part.setPort .desk q).after (.interByteTimeout .desk)
    (t.port .desk).recv = .hunt ∧ t.now = 200 := by decide +kernel

theorem test_unknown_code_is_answered : let t := part.after (.unknownCommand .desk 0x90 [])
    (t.port .desk).response.take 5 = [0xC3, 0, 0x90, 1, 0] := by decide +kernel

theorem test_response_end_hunts : let t := (part.setPort .desk { Port.powerOn with recv := .answer }).after (.responseEnd .desk)
    (t.port .desk).recv = .hunt := by decide +kernel

/-- The status and the data of the response a command leaves at the desk port. -/
def told (s : State) (c : Instr) : List Byte := (((s.after c).port .desk).response.drop 3).dropLast

/-! ### Reads -/

theorem test_read_part_status : told onAir (.readPartStatus .desk [])
    = [0, 16, 0, 2, 0, 1, 1, 1, 1, 0, 0, 0, 0, 0, 0, 0, 0, 15] := by decide +kernel

theorem test_read_source : told onAir (.readSource .desk [1, 1])
    = [0, 29, 1, 2, 1, 1, 0x09, 0x60, 0, 0, 0, 0, 0, 0, 3, 0, 0, 10, 0x09, 0x60, 0x17, 7, 0, 0,
       0x7F, 0xFF, 0xFF, 0x7F, 0xFF, 0xFF, 0] := by decide +kernel

theorem test_read_island : told part (.readIsland .desk [1]) = [0, 15, 1, 1, 1, 0, 0, 0, 0, 1, 0, 0, 0, 0, 0, 0, 0] := by
  decide +kernel

/-- Kind CHANGEOVER in bits 11 to 10, WAITING in bits 7 to 4 of byte 2 (R173). -/
theorem test_read_cue : (told (holding part cue) (.readCue .desk [0, 5, 0])).take 10 = [0, 28, 4, 5, 0x10, 0x12, 0, 0, 3, 232]
    ∧ told part (.readCue .desk [0, 5, 0]) = [4, 0] := by decide +kernel

/-- The fire position of O, bytes 14 to 16, is absent in FIRING and reported once the record has ended (R42, R62). -/
theorem test_read_cue_fire_position :
    let read := fun k => ((told (holding part { inState k with fireO := some 1000 }) (.readCue .desk [0, 5, 0])).drop 16).take 3
    read .firing = [0x7F, 0xFF, 0xFF] ∧ read .done = [0, 3, 232] := by decide +kernel

theorem test_read_cue_spec : told (holding part cue) (.readCueSpec .desk [0, 5, 0])
    = [0, 16, 0, 5, 1, 0, 3, 232, 0, 1, 0, 0, 100, 0, 0, 2, 2, 1] := by decide +kernel

/-- Ids 5 and 6 as 10-bit fields: 0000000101 0000000110 (R173). -/
theorem test_read_rundown : told (part.setRundown 0 [5, 6]) (.readRundown .desk [1, 0]) = [0, 5, 2, 0, 0x01, 0x40, 0x60]
    ∧ told part (.readRundown .desk [1, 32]) = [3, 0] := by decide +kernel

theorem test_read_map : told (part.setMap 0 [⟨17, 2400, 3600⟩]) (.readMap .desk [1, 0])
    = [0, 9, 1, 0, 0, 17, 0, 0x09, 0x60, 0x0E, 0x10] := by decide +kernel

theorem test_read_alarms : told (part.raise (.island 0) .cueMissed .warning (some 10) (some 5)) (.readAlarms .desk [0])
    = [0, 12, 1, 0x08, 0, 0x11, 0x13, 0x02, 1, 0, 0, 10, 0, 5] := by decide +kernel

theorem test_read_notices : told (part.post (.cue 60)) (.readNotices .desk []) = [0, 6, 1, 0, 0, 1, 0, 60]
    ∧ (((part.post (.cue 60)).after (.readNotices .desk [])).port .desk).notices = [] := by decide +kernel

/-! ### Cues and rundowns -/

/-- The data of a LOAD CUE of the cue above. -/
def loadData : List Byte := [0, 5, 1, 1, 2, 1, 0, 1, 0, 3, 232, 0, 1, 0, 0, 100, 0, 0, 2, 2, 1]

theorem test_load_cue : (part.after (.loadCue .desk loadData)).cues = [cue]
    ∧ (told (holding part cue) (.loadCue .desk loadData)).take 1 = [5] := by decide +kernel

theorem test_amend_cue : let d := [0, 5, 4, 0, 0, 0, 0, 0, 0, 0, 0, 0, 0, 0, 0xFA, 0, 0, 0]
    let t := (holding part cue).after (.amendCue .desk d)
    (t.cue 5).map (fun c => (c.trim, c.resT, c.resQ)) = some (-6, some 994, some 100) := by decide +kernel

theorem test_retire_cue : ((holding part cue).after (.retireCue .desk [0, 5])).cues = []
    ∧ (told (holding part (inState .armed)) (.retireCue .desk [0, 5])).take 1 = [10] := by decide +kernel

theorem test_place_cue_arms : let t := (holding onAir cue).after (.placeCue .desk [0, 5, 2, 0, 0])
    (t.eng 0).state = .armed ∧ t.rundown 0 = [5] := by decide +kernel

theorem test_place_cue_blocks : let t := (holding part cue).after (.placeCue .desk [0, 5, 1, 0, 0])
    (t.cue 5).map (·.blocked) = some (some .outgoingNotRunning) := by decide +kernel

theorem test_withdraw_cue : let t := (carried onAir .armed (inState .armed)).after (.withdrawCue .desk [0, 5])
    t.rundown 0 = [] ∧ (t.cue 5).map (·.state) = some .waiting ∧ (t.eng 0).state = .idle := by decide +kernel

theorem test_clear_rundown_keeps_flight : ((carried (onAir.setSrc 1 (fast 1 0)) .ready (inState .ready)).after
    (.clearRundown .desk [1])).rundown 0 = [5] := by decide +kernel

/-! ### Reel maps -/

theorem test_set_segment : let t := (part.setMap 0 [⟨3, 100, 50⟩]).after (.setSegment .desk [1, 0, 4, 0, 0, 0, 10, 0, 90])
    t.map 0 = [⟨4, 10, 90⟩, ⟨3, 100, 50⟩] := by decide +kernel

theorem test_set_segment_overlap : (told (part.setMap 0 [⟨3, 100, 50⟩])
    (.setSegment .desk [1, 0, 4, 0, 0, 0, 10, 0, 91])).take 1 = [8] := by decide +kernel

theorem test_drop_segment : ((part.setMap 0 [⟨3, 100, 50⟩]).after (.dropSegment .desk [1, 0, 3])).map 0 = [] := by
  decide +kernel

theorem test_clear_map : ((part.setMap 0 [⟨3, 100, 50⟩]).after (.clearMap .desk [1])).map 0 = [] := by decide +kernel

/-! ### Sources -/

theorem test_configure_source : let t := State.reset.after (.configureSource .desk
      [1, 2, 1, 4, 0x09, 0x60, 0x0B, 0xB8, 0, 36, 0, 24])
    (t.src 0).state = .unloaded ∧ (t.src 0).inputPos = some 3 ∧ (t.src 0).runUp = 3000 ∧ (t.src 0).travel = 36
    ∧ (t.src 0).tail = 24 := by decide +kernel

/-- R1: U = 0 allows D = 0 and nothing more. -/
theorem test_configure_source_travel : (told State.reset (.configureSource .desk
    [1, 2, 1, 4, 0x09, 0x60, 0, 0, 0, 1, 0, 0])).take 1 = [3] := by decide +kernel

theorem test_zero_counter : ((part.after (.zeroCounter .desk [2, 1, 0, 2, 3])).src 1).pos = some 35
    ∧ (told onAir (.zeroCounter .desk [1])).take 1 = [11] := by decide +kernel

theorem test_run_asks : (part.after (.run .desk [2])).arbiter.due = [⟨1, .run⟩]
    ∧ (told part (.run .desk [3])).take 1 = [3] := by decide +kernel

theorem test_stop : let t := onAir.after (.stop .desk [1])
    (t.src 0).state = .stopping ∧ (t.src 0).dowser = true := by decide +kernel

theorem test_inch_to : let t := part.after (.inchTo .desk [2, 0, 0, 0, 7])
    (t.src 1).state = .inching ∧ (t.src 1).inchTimer = some 300000 := by decide +kernel

theorem test_dowser_open : ((part.after (.dowser .desk [3, 1])).src 2).dowser = true
    ∧ (told part (.dowser .desk [2, 1])).take 1 = [11] := by decide +kernel

theorem test_hold : ((part.after (.hold .desk [2, 1])).src 1).hold = true
    ∧ (told part (.hold .desk [2, 3])).take 1 = [3] := by decide +kernel

theorem test_lockout : ((part.after (.lockout .desk [2, 1])).src 1).lockout = some .manual
    ∧ (told part (.lockout .desk [1, 1])).take 1 = [11] := by decide +kernel

theorem test_clear_lockout : ((part.setSrc 1 { film 1 0 with lockout := some .stall }).after
      (.clearLockout .desk 2)).src 1 = film 1 0
    ∧ (told (part.setSrc 1 { film 1 0 with lockout := some .stall, rate := 1 }) (.clearLockout .desk 2)).take 1 = [14] := by
  decide +kernel

/-! ### Islands -/

theorem test_configure_island : let t := part.after (.configureIsland .desk [1, 3, 1, 0x01, 0xF4])
    (t.isl 0).protect = some 2 ∧ (t.isl 0).margin = 500 ∧ (t.isl 0).emergEnable = true := by decide +kernel

theorem test_fire_now : let t := (carried (onAir.setSrc 1 (fast 1 97)) .ready (inState .ready)).after (.fireNow .desk [1])
    (t.eng 0).state = .switching ∧ (t.cue 5).map (fun c => (c.fireO, c.fireI, c.fireErr)) = some (some 10, some 97, some (-3)) := by
  decide +kernel

theorem test_abort : let t := (carried (onAir.setSrc 1 (fast 1 97)) .ready (inState .ready)).after (.abortChangeover .desk [1])
    (t.src 1).motor = false ∧ (t.cue 5).map (·.missCause) = some (some .aborted) ∧ (t.eng 0).state = .idle := by decide +kernel

theorem test_cut_to : let t := part.after (.cutTo .desk [1, 3])
    (t.eng 0).drive = some 2 ∧ (t.eng 0).returnPos = some 0 ∧ (t.src 2).dowser = true := by decide +kernel

/-- I1 in a CUT toward S2 with the mirror BETWEEN, and the cue in the table. -/
def cutBetween : State :=
  (moving (holding part cue) .cut 1).setIsl 0 { Island.reset with mirrorLines := 0, driftTimer := none }

/-- A head waits as ENGINE_BUSY during a cut, with the live source NONE (R85, R123, section 7.12). -/
theorem test_head_waits_during_a_cut : let t := cutBetween.after (.placeCue .desk [0, 5, 1, 0, 0])
    t.live 0 = none ∧ (t.cue 5).map (·.blocked) = some (some .engineBusy) := by decide +kernel

theorem test_island_reset : let t := (carried onAir .armed (inState .armed)).after (.islandReset .desk [1])
    t.cues = [] ∧ t.rundown 0 = [] ∧ t.eng 0 = Engine.idle ∧ (t.src 0).motor = true := by decide +kernel

/-! ### Alarms, control, notices and resets -/

theorem test_acknowledge_alarm : let s := part.raise (.source 0) .loopLoss .warning none none
    ((s.after (.acknowledgeAlarm .desk [1, 5])).alarm (.source 0) .loopLoss).map (·.state) = some .standing
    ∧ (told s (.acknowledgeAlarm .desk [1, 6])).take 1 = [4] := by decide +kernel

theorem test_acknowledge_all : ((part.raise (.island 0) .cueSlip .warning none none).after
    (.acknowledgeAll .desk [])).alarms.records = [] := by decide +kernel

theorem test_silence_bell : let s := part.raise (.island 0) .noProtect .urgent none none
    s.alarms.bell = true ∧ (s.after (.silenceBell .desk [])).alarms.bell = false
    ∧ (s.after (.silenceBell .desk [])).alarms.lamp = .flashing := by decide +kernel

theorem test_give_control : ((part.after (.giveControl .desk [1])).isl 0).control = .panel := by decide +kernel

theorem test_take_control : ((part.after (.takeControl .panel [1])).isl 0).control = .panel
    ∧ (((moving part .cut 1).after (.takeControl .panel [1])).isl 0).control = .desk := by decide +kernel

theorem test_seize_control : (((part.setIsl 0 { part.isl 0 with control := .panel }).after
    (.seizeControl .desk [1])).isl 0).control = .desk ∧ ((part.after (.seizeControl .panel [1])).isl 0).control = .desk := by
  decide +kernel

theorem test_notice_enables : told part (.noticeEnables .desk [5]) = [0, 1, 5]
    ∧ told part (.noticeEnables .desk [16]) = [3, 0] := by decide +kernel

theorem test_part_reset_waits_for_the_answer : let t := part.after (.partReset .desk [])
    t.sources = part.sources ∧ (t.port .desk).resetPending = true := by decide +kernel

theorem test_part_reset_is_taken : let s := part.setPort .desk { Port.powerOn with recv := .answer, resetPending := true }
    let t := s.after (.responseEnd .desk)
    (t.src 0).state = .threaded ∧ (t.port .desk).notices.length = 4 ∧ (t.port .desk).restart = true := by decide +kernel

theorem test_reset_input_stops_outputs : let t := onAir.after .resetInputAsserted
    (t.src 0).motor = false ∧ t.takes .desk = false := by decide +kernel

/-! ### Heads judged in turn -/

/-- Two heads that the film has passed end in turn; the record of CUE_MISSED counts both and names the first (R82). -/
theorem test_passed_chain_names_the_first :
    let s := { onAir with cues := [{ stopCue with resT := some 5 }, { stopCue with id := 8, resT := some 7 }] }.setRundown 0 [6, 8]
    let t := s.after (.hold .desk [2, 2])
    t.rundown 0 = [] ∧ (t.alarm (.island 0) .cueMissed).map (fun r => (r.count, r.cueId)) = some (2, some 6) := by decide +kernel

/-- A map change resolves both cues afresh before it judges a head: the first has passed, and the second, whose old outcome had
passed, arms on its new one (R35). -/
theorem test_map_change_judges_fresh_outcomes :
    let a := { stopCue with trigger := some (.story 3 1 .atEnd), resT := some 57 }
    let b := { stopCue with id := 8, trigger := some (.story 3 2 .atStart), resT := some 10 }
    let s := ({ onAir with cues := [a, b] }.setRundown 0 [6, 8]).setMap 0 [⟨3, 8, 50⟩]
    let t := s.after (.setSegment .desk [1, 0, 3, 0, 0, 0, 9, 0, 2])
    (t.cue 6).map (·.missCause) = some (some .passed) ∧ t.rundown 0 = [8]
    ∧ (t.cue 8).map (fun r => (r.state, r.resT)) = some (.armed, some 11) := by decide +kernel

/-! ### Witnesses: the hypotheses of the statements, met -/

/-- A part with a command waiting. -/
def asked : State := { onAir with pending := [.slotGrant, .responseEnd .desk] }

theorem witness_step_and_idle : asked.pending = .slotGrant :: [.responseEnd .desk] ∧ part.pending = []
    ∧ ((owed part 1 .run).arbiter.due ≠ [] ∧ 0 < (owed part 1 .run).arbiter.free)
    ∧ (¬(part.arbiter.due ≠ [] ∧ 0 < part.arbiter.free) ∧ (∀ e ∈ part.timers, part.due e.1 = false))
    ∧ (∃ e ∈ onAir.timers, ({ onAir with now := 10000 } : State).due e.1 = true) := by decide +kernel

/-- A state with something in every table. -/
def full : State :=
  (((carried (onAir.setSrc 1 (fast 1 97)) .ready (inState .ready)).setMap 0 [⟨3, 100, 50⟩]).raise (.source 0) .loopLoss
    .warning none none).setPort .panel { Port.powerOn with notices := [.cue 5, .source 0] }

/-- A command waits at it. -/
def next : State := { full with pending := [.fireNow .desk [1]] }

theorem witness_step_goes_on :
    step next = .next (({ next with pending := [] } : State).runCommand fireNowCommand .desk [1]) := rfl

theorem witness_outputs_safe : OutputsSafe next := by unfold OutputsSafe; decide +kernel

theorem witness_engine_fields_fit : EngineFieldsFit next := by unfold EngineFieldsFit; decide +kernel

theorem witness_tables_fit : TablesFit next where
  positions := by
    intro x p h
    have : ∀ y : Src, (next.src y).pos.all (fun p => decide (-8192 ≤ p ∧ p ≤ 131071)) = true := by decide +kernel
    have := this x
    rw [h] at this
    simpa using this
  rates := by decide +kernel
  cues := by decide +kernel
  rundowns := by decide +kernel
  alarms := by decide +kernel
  notices := by unfold Port.noticesFit; decide +kernel
  requests := by decide +kernel

theorem witness_rundowns_fit : RundownsFit next := by unfold RundownsFit; decide +kernel

theorem witness_map_fits : MapFits [⟨3, 100, 50⟩, ⟨4, 150, 130921⟩] where
  length := by decide
  ascends := by decide
  tags := by decide
  values := by decide

theorem cuesFit_of {s : State}
    (h : (∀ i : Isl, ((s.eng i).cue.all fun id => (s.cue id).any fun c => c.island == i && c.kind != .mark
        && s.head i == some c && (s.eng i).state.cueState == some c.state
        && ((s.eng i).state != .switching || (s.eng i).switchKind == some .cue)) = true)
      ∧ (∀ i : Isl, (s.eng i).moving = true → (s.eng i).switchKind.isSome = true)
      ∧ ∀ c ∈ s.cues, c.kind ≠ .mark → c.state = .armed ∨ c.state.inFlight = true → (s.eng c.island).cue = some c.id) :
    CuesFitEngines s := by
  refine ⟨fun i id hi => ?_, h.2.1, h.2.2⟩
  have ha := h.1 i
  rw [hi] at ha
  cases hc : s.cue id with
  | none => simp [hc] at ha
  | some c =>
    simp only [Option.all_some, hc, Option.any_some, Bool.and_eq_true, Bool.or_eq_true, beq_iff_eq, bne_iff_ne] at ha
    exact ⟨c, rfl, ha.1.1.1.1, ha.1.1.1.2, ha.1.1.2, ha.1.2, fun hs => ha.2.resolve_left (fun hn => hn hs)⟩

theorem witness_cues_fit_engines : CuesFitEngines next := cuesFit_of (by decide +kernel)

/-- Both slots are held, and two sources wait. -/
def waiting : State :=
  { onAir with arbiter := { slot1 := some 3, slot2 := some 4, waits := [⟨0, .run⟩, ⟨1, .run⟩], due := [], pointer := 7 } }

theorem witness_no_wait_while_free : NoWaitWhileFree next ∧ NoWaitWhileFree waiting ∧ waiting.arbiter.waits ≠ []
    ∧ InputsApart next ∧ (next.src 1).faces 0 1 = true := by
  unfold NoWaitWhileFree InputsApart
  decide +kernel

theorem witness_maps_fit : MapsFit next := by
  intro x
  refine ⟨⟨?_, ?_, ?_, ?_⟩, ?_⟩ <;> revert x <;> decide +kernel

/-- The longest data a frame counts. -/
def longData : List Byte := List.replicate 255 7

theorem longData_length : longData.length = 255 := List.length_replicate

theorem witness_frames : part.resetAsserted = false ∧ (part.port .desk).recv = .hunt ∧ longData.length ≤ 255
    ∧ ([] : List Byte).length ≤ 255 ∧ (0 : Byte) ≠ crc ([part.unitAddress.setWidth 8, 0x32, 1] ++ [2])
    ∧ (1 : Byte) ≠ part.unitAddress.setWidth 8 := by
  refine ⟨by decide +kernel, by decide +kernel, Nat.le_of_eq longData_length, by decide, by decide +kernel⟩

/-- A port in RECEIVE, at its first byte and at its check byte. -/
def receiving (n : Nat) : State :=
  part.setPort .desk { Port.powerOn with recv := .receive, buf := [0, 1, 0].take n, received := n, interByte := some 200 }

/-- A port in ANSWER. -/
def answering (reset : Bool) : State := part.setPort .desk { Port.powerOn with recv := .answer, resetPending := reset }

theorem witness_line_events : (part.resetAsserted = false ∧ (part.port .desk).recv = .hunt ∧ (0xC3 : Byte) = 0xC3
      ∧ (0xC2 : Byte) ≠ 0xC3)
    ∧ ((receiving 2).resetAsserted = false ∧ ((receiving 2).port .desk).recv = .receive
      ∧ ((receiving 2).port .desk).atCheck = false ∧ ((receiving 3).port .desk).atCheck = true)
    ∧ ((answering false).port .desk).recv = .answer ∧ ((answering false).port .desk).resetPending = false
    ∧ ((receiving 0).port .desk).recv ≠ .answer ∧ ((receiving 0).port .desk).interByte = some 200 := by decide +kernel

theorem witness_taken_frame : part.takes .desk = true ∧ 32 < 33 ∧ 32 ≤ 32 ∧ (0x0A : Byte) ∉ commandCodes
    ∧ runSourceCommand ∈ commandSet ∧ runSourceCommand.code = 0x32 ∧ ([] : List Byte).length ∉ runSourceCommand.lengths
    ∧ (0x80 : Byte) ∉ commandCodes ∧ (List.replicate 32 (0 : Byte)).length ≤ 32 ∧ 32 < longData.length := by
  refine ⟨by decide +kernel, by decide, by decide, by decide, ?_, rfl, by decide, by decide, by decide,
    by rw [longData_length]; decide⟩
  simp [commandSet]

theorem witness_refused_command : readIslandCommand ∈ commandSet
    ∧ (readIslandCommand.reply .desk [5] part).status ≠ .done := by
  refine ⟨?_, by decide +kernel⟩
  simp [commandSet]

theorem witness_response_length : (List.replicate 32 (0 : Byte)).length ≤ 32 := by decide

theorem witness_positions : (-8192 : Int) ≤ -8192 ∧ (131071 : Int) ≤ 131071 ∧ (16 = 16 ∨ 16 = 40) ∧ (40 = 16 ∨ 40 = 40)
    ∧ 1 ≤ 4095 ∧ 4095 ≤ 4095 ∧ 65535 ≤ 65535 := by decide

theorem witness_part_reset : part.takes .desk = true ∧ part.primaryLink = .desk ∧ part.takes .panel = true
    ∧ part.primaryLink ≠ .panel ∧ ((answering true).port .desk).recv = .answer
    ∧ ((answering true).port .desk).resetPending = true
    ∧ (∀ x, (answering true).isLive x = true → ((answering true).src x).isFilm = true → ((answering true).src x).lamp = true)
    ∧ (answering true).isLive 0 = true := by decide +kernel

/-- A running source with a tail stop and one that inches, each one frame short. -/
def near : State :=
  (part.setSrc 0 { fast 0 10 with tailStop := some 11 }).setSrc 1 { film 1 0 with inch := true, inchTarget := some 1 }

theorem witness_pulses : (near.src 2).isFilm = false ∧ (near.src 0).isFilm = true ∧ (near.src 1).pulseRef = none
    ∧ (near.src 0).pos = some 10 ∧ (10 : Int) < 11 ∧ (11 : Int) ≤ min 131071 (10 + 1) ∧ (near.src 0).tailStop = some 11
    ∧ (near.src 1).pos = some 0 ∧ (near.src 1).inchTarget = some 1 ∧ (near.src 0).pulseRef = some 0
    ∧ ((near.after (.framePulse 0 true 417)).src 0).motor = false
    ∧ ((onAir.after (.framePulse 0 true 417)).src 0).motor = true
    ∧ 5 * min 6000 ((1 * 1000000 + 1200 / 2) / 1200) < 2 * (film 0 0).n := by decide +kernel

/-- A source on the way up to speed, with a number of intervals stored. -/
def rising (k : Nat) : State :=
  let v := { film 0 13 with motor := true, rate := 2398, pulseRef := some 7000, runupTimer := some 20000,
                            intervals := List.replicate k 417 }
  ({ part with now := 7000, arbiter := { part.arbiter with slot1 := some 0 } } : State).setSrc 0 v

/-- The band flag comes at the eighth interval and not at the seventh; a source past its run-up. -/
theorem witness_band_flag : ((rising 7).src 0).reached = false
    ∧ (((rising 7).after (.framePulse 0 true 417)).src 0).band = true
    ∧ (((rising 7).after (.framePulse 0 true 417)).src 0).motor = true
    ∧ ((rising 6).src 0).pulseRef = some 7000 ∧ (((rising 6).after (.framePulse 0 true 417)).src 0).band = false
    ∧ (((rising 6).after (.framePulse 0 true 417)).src 0).motor = true ∧ (onAir.src 0).reached = true
    ∧ (onAir.src 0).isFilm = true := by decide +kernel

/-- A flight of the cue with S1 and S2 as they are given. -/
def flight (k : EngState) (o i : Source) (c : CueRec) : State := carried ((part.setSrc 0 o).setSrc 1 i) k c

theorem carries_of {s : State} {i : Isl} {c : CueRec} {x : Src} {k : EngState}
    (h : (s.eng i).state = k ∧ k.cueState = some c.state ∧ s.current i = some c ∧ s.head i = some c ∧ c.island = i
      ∧ c.kind = .changeover ∧ c.partner = some x ∧ c.subject ≠ x ∧ (k ≠ .switching → s.live i = some c.subject)
      ∧ (s.src x).island = some i ∧ (s.cues.map (·.id)).Nodup) : s.Carries i c x k := by
  obtain ⟨h1, h2, h3, h4, h5, h6, h7, h8, h9, h10, h11⟩ := h
  exact ⟨h1, h2, h3, h4, h5, h6, h7, h8, h9, h10, h11⟩

theorem rolls_of {v : Source} (h : v.isFilm = true ∧ v.film = true ∧ v.lamp = true ∧ v.motor = true ∧ v.inch = false
    ∧ v.tailStop = none ∧ v.lockout = none) : v.Rolls := by
  obtain ⟨h1, h2, h3, h4, h5, h6, h7⟩ := h
  exact ⟨h1, h2, h3, h4, h5, h6, h7⟩

/-- O runs with no pulse reference, one frame short of the start point. -/
def startNear : State :=
  flight .armed { fast 0 10 with pulseRef := none } (film 1 0) { inState .armed with startPoint := some 11 }

theorem witness_first_pulse_at_start : let c := { inState .armed with startPoint := some 11 }
    startNear.Carries 0 c 1 .armed ∧ c.subject = 0 ∧ (startNear.src 0).Rolls ∧ (startNear.src 0).pulseRef = none
    ∧ startNear.blockOf 0 c true = none ∧ c.mode = .position ∧ (startNear.src 1).isFilm = true ∧ c.slotRequested = false
    ∧ c.startPoint = some 11 ∧ (startNear.src 0).pos = some 10 ∧ (11 : Int) ≤ min 131071 (10 + 1) :=
  ⟨carries_of (by decide +kernel), by decide, rolls_of (by decide +kernel), by decide +kernel⟩

/-- O one frame short of the trigger, in each state of a flight. -/
def triggerNear (k : EngState) (c : CueRec) : State :=
  flight k (fast 0 999) (match k with
    | .armed => film 1 0
    | .rolling => { fast 1 50 with band := false, reached := false }
    | _ => fast 1 97) c

/-- A ROLLING cue under a late policy. -/
def rollingCue (p : LatePolicy) : CueRec := { inState .rolling with policy := some p }

theorem witness_crossing : let a := { inState .armed with slotRequested := true }
    ((triggerNear .armed a).Carries 0 a 1 .armed ∧ (triggerNear .armed a).blockOf 0 a true = none ∧ a.slotRequested = true
      ∧ ((triggerNear .armed a).src 0).Rolls)
    ∧ (∀ p, (triggerNear .rolling (rollingCue p)).Carries 0 (rollingCue p) 1 .rolling)
    ∧ (∀ p, ((triggerNear .rolling (rollingCue p)).src 0).Rolls)
    ∧ ((triggerNear .ready (inState .ready)).Carries 0 (inState .ready) 1 .ready
      ∧ ((triggerNear .ready (inState .ready)).src 0).Rolls)
    ∧ (∀ k ∈ [EngState.armed, .rolling, .ready], ((triggerNear k a).eng 0).takePending = false
      ∧ ((triggerNear k a).eng 0).holdPicture = false ∧ ((triggerNear k a).src 1).inputPos = some 1
      ∧ ((triggerNear k a).src 0).pos = some 999 ∧ (triggerNear k a).rundown 0 = [a.id])
    ∧ ((triggerNear .rolling a).src 1).lostIncoming = false ∧ ((triggerNear .rolling a).src 1).state ≠ .atSpeed
    ∧ a.resT = some 1000 ∧ (999 : Int) < 1000 ∧ (1000 : Int) ≤ min 131071 (999 + 1) ∧ a.subject = 0 := by
  refine ⟨⟨carries_of (by decide +kernel), by decide +kernel, by decide, rolls_of (by decide +kernel)⟩, ?_, ?_,
    ⟨carries_of (by decide +kernel), rolls_of (by decide +kernel)⟩, by decide +kernel⟩
  · intro p; cases p <;> exact carries_of (by decide +kernel)
  · intro p; cases p <;> exact rolls_of (by decide +kernel)

/-- A STOP of S1 that stands ARMED one frame short of its trigger. -/
def stopNear (keep : Bool) : State := carried (onAir.setSrc 0 (fast 0 999)) .armed { stopCue with state := .armed, keep := keep }

theorem witness_stop_crossing (keep : Bool) : let c := { stopCue with state := .armed, keep := keep }
    let s := stopNear keep
    c.resT = some 1000 ∧ c.subject = 0 ∧ c.kind = .stop ∧ c.island = 0 ∧ (s.src 0).island = some 0 ∧ (s.src 0).lamp = true
    ∧ (s.eng 0).state = .armed ∧ c.state = .armed ∧ s.current 0 = some c ∧ (s.cues.map (·.id)).Nodup
    ∧ (s.eng 0).takePending = false ∧ (s.eng 0).holdPicture = false ∧ s.rundown 0 = [c.id] ∧ (s.src 0).pos = some 999 := by
  cases keep <;> decide +kernel

/-- A measured pulse at O of an ARMED cue, before and after the request. -/
theorem witness_measured_outgoing : let a := inState .armed
    let b := { inState .armed with slotRequested := true }
    let s := flight .armed (fast 0 10) (film 1 0) a
    let u := flight .armed (fast 0 10) (film 1 0) b
    s.Carries 0 a 1 .armed ∧ u.Carries 0 b 1 .armed ∧ (s.src 0).Rolls ∧ (u.src 0).Rolls ∧ a.slotRequested = false
    ∧ b.slotRequested = true ∧ (s.src 0).pulseRef = some 0 ∧ s.blockOf 0 a true = none ∧ u.blockOf 0 b true = none
    ∧ a.mode = .position ∧ (s.src 1).isFilm = true ∧ a.resT = some 1000 ∧ a.resQ = some 100 ∧ (s.src 1).pos = some 0
    ∧ ((s.after (.framePulse 0 true 417)).src 0).pos = some 11 ∧ ((u.after (.framePulse 0 true 417)).src 0).pos = some 11 :=
  ⟨carries_of (by decide +kernel), carries_of (by decide +kernel), rolls_of (by decide +kernel), rolls_of (by decide +kernel),
    by decide +kernel⟩

/-- I at speed in READY, one frame short of its picture point, with the flags of the engine as given; and I short of speed. -/
def pictureNear (take hold : Bool) : State :=
  (flight .ready (fast 0 10) (fast 1 99) (inState .ready)).setEng 0
    { Engine.idle with state := .ready, cue := some 5, takePending := take, holdPicture := hold }

theorem witness_measured_incoming :
    (∀ take hold, (pictureNear take hold).Carries 0 (inState .ready) 1 .ready ∧ ((pictureNear take hold).src 1).Rolls
      ∧ ((pictureNear take hold).src 1).inputPos = some 1 ∧ ((pictureNear take hold).src 0).isRunning = true
      ∧ (((pictureNear take hold).after (.framePulse 1 true 417)).src 1).band = true
      ∧ ((pictureNear take hold).after (.framePulse 1 true 417)).pictureReached (inState .ready) 1 = true)
    ∧ (let s := triggerNear .rolling (rollingCue .abandon)
      (s.src 1).Rolls ∧ ((s.after (.framePulse 1 true 500)).src 1).band = false) := by
  refine ⟨fun take hold => ⟨carries_of ?_, rolls_of ?_, ?_⟩, rolls_of (by decide +kernel), by decide +kernel⟩ <;>
    revert take hold <;> decide +kernel

/-- LAMP_FAIL begins with the lamp; LOOP_LOSS ends with the loop, RAISED or STANDING; COUNT_RANGE begins at its limit. -/
theorem witness_conditions : let looped (k : AlarmState) : State :=
      { onAir.setSrc 0 { fast 0 10 with conds := { Conds.clear with loopLoss := true } } with
        alarms := ⟨[⟨.source 0, .loopLoss, .warning, k, 1, none, none⟩], false, true⟩ }
    ((onAir.src 0).conds.get .lampFail = false ∧ ((onAir.after (.lampSenseChange 0 false)).src 0).conds.get .lampFail = true
      ∧ onAir.alarmRoom ∧ onAir.alarm (.source 0) .lampFail = none)
    ∧ (∀ k ∈ [AlarmState.raised, .standing], ((looped k).src 0).conds.get .loopLoss = true
      ∧ (((looped k).after (.loopSenseChange 0 true)).src 0).conds.get .loopLoss = false
      ∧ ∃ r ∈ (looped k).alarms.records, (looped k).alarm (.source 0) .loopLoss = some r ∧ r.state = k)
    ∧ (let s := onAir.setSrc 0 (fast 0 131070)
      (s.src 0).conds.get .countRange = false
      ∧ ((s.after (.framePulse 0 true 417)).src 0).conds.get .countRange = true) := by
  unfold State.alarmRoom
  decide +kernel

/-- An ARMED MARK one frame ahead of its subject. -/
def marked' (keep : Bool) : State := holding onAir { markCue with keep := keep }

theorem witness_mark : ((marked' true).src 0).isFilm = true ∧ RundownsFit (marked' true)
    ∧ (∀ i, ((marked' true).eng i).cue ≠ some markCue.id) ∧ markCue ∈ (marked' true).cues ∧ markCue.kind = .mark
    ∧ markCue.subject = 0 ∧ markCue.state = .armed ∧ markCue.resT = some 11 ∧ ((marked' true).src 0).pos = some 10
    ∧ (10 : Int) < 11 ∧ (11 : Int) ≤ min 131071 (10 + 1) ∧ markCue.keep = true
    ∧ { markCue with keep := false } ∈ (marked' false).cues := by
  unfold RundownsFit
  decide +kernel

theorem witness_timers : (onAir.src 0).silenceTimer = some 10000 ∧ (onAir.src 0).motor = true
    ∧ (onAir.src 0).reached = true ∧ onAir.alarms.records.length ≤ 12
    ∧ ((part.setSrc 1 { film 1 0 with inchTimer := some 300000 }).src 1).inchTimer = some 300000
    ∧ ((part.setSrc 1 { film 1 0 with motor := true, runupTimer := some 20000 }).src 1).runupTimer = some 20000
    ∧ part.alarm (.source 1) .inchTimeout = none ∧ part.alarm (.source 1) .runupTimeout = none := by decide +kernel

/-- An island other than I1 is quiet, and so is I1 with nothing placed. -/
theorem quiet_part (i : Isl) : part.quiet i ∧ onAir.quiet i := by
  have h : ∀ i, (part.rundown i = [] ∧ (part.eng i).cue = none) ∧ onAir.rundown i = [] ∧ (onAir.eng i).cue = none := by
    decide +kernel
  exact h i

theorem witness_film_loss : (part.src 2).isFilm = false ∧ (onAir.src 0).isFilm = true ∧ (onAir.src 0).film = true
    ∧ (onAir.src 0).motor = true ∧ (onAir.isLive 0 || onAir.isIncoming 0) = true ∧ part.quietAt 1 ∧ (part.src 1).film = true
    ∧ (part.src 1).motor = false ∧ onAir.alarm (.source 0) .filmBreak = none
    ∧ (let s := part.setSrc 1 (fast 1 0)
      (s.src 1).motor = true ∧ (s.isLive 1 || s.isIncoming 1) = false ∧ s.alarm (.source 1) .runout = none) := by
  refine ⟨by decide +kernel, by decide +kernel, by decide +kernel, by decide +kernel, by decide +kernel,
    fun i _ => (quiet_part i).1, by decide +kernel⟩

theorem witness_sense_lines : let v := (part.setSrc 1 { film 1 0 with film := false, pos := none }).src 1
    v.isFilm = true ∧ v.film = false ∧ v.pos = none ∧ v.inch = false ∧ v.motor = false ∧ (part.src 2).stype = .still := by
  decide +kernel

/-- A flight whose O or I may be lost. -/
def flying (k : EngState) : State :=
  flight k (fast 0 10) (fast 1 50) (inState (if k = .rolling then .rolling else .ready))

/-- A READY cue toward the slide unit. -/
def slideCue : CueRec := { inState .ready with partner := some 2, picture := none, resQ := none }

theorem witness_losses : ((flying .rolling).Carries 0 (inState .rolling) 1 .rolling)
    ∧ ((flying .ready).Carries 0 (inState .ready) 1 .ready)
    ∧ (let c := { inState .ready with mode := .take }
      (flight .ready (fast 0 10) (fast 1 50) c).Carries 0 c 1 .ready)
    ∧ (carried onAir .ready slideCue).Carries 0 slideCue 2 .ready ∧ ((carried onAir .ready slideCue).src 2).stype = .still
    ∧ (∀ k ∈ [EngState.rolling, .ready], ((flying k).isl 0).emergEnable = false ∧ ((flying k).src 1).lostIncoming = false
      ∧ ((flying k).src 0).isFilm = true ∧ ((flying k).src 1).film = true ∧ (flying k).rundown 0 = [5]
      ∧ (flying k).isLive 1 = false ∧ (flying k).takes .desk = true ∧ (flying k).controlsOf .desk 0 = true
      ∧ (flying k).controlsOf .desk 1 = true ∧ ((flying k).src 1).configured = true) :=
  ⟨carries_of (by decide +kernel), carries_of (by decide +kernel), carries_of (by decide +kernel),
    carries_of (by decide +kernel), by decide +kernel⟩

/-- S1 on air with the emergency enable on, and S3 or nothing as the protect source. -/
def guarded (protect : Option Src) : State := onAir.setIsl 0 { onAir.isl 0 with emergEnable := true, protect := protect }

theorem witness_lamp_failure : let s := guarded (some 2)
    (s.src 0).isFilm = true ∧ ((s.src 0).motor || s.isLive 0) = true ∧ (s.src 0).conds.lampFail = false
    ∧ s.alarms.records.length ≤ 12 ∧ (s.src 0).lockout = none ∧ s.alarm (.source 0) .lampFail = none
    ∧ (s.src 0).island = some 0 ∧ s.live 0 = some 0 ∧ (s.isl 0).emergEnable = true ∧ s.eng 0 = Engine.idle
    ∧ s.rundown 0 = [] ∧ s.usableProtect 0 = some 2 ∧ (s.src 2).inputPos = some 2 ∧ (s.src 2).openBarred = false
    ∧ (guarded none).usableProtect 0 = none ∧ (part.isLive 1 = false ∧ ((part.setSrc 1 (fast 1 0)).src 1).motor = true) := by
  decide +kernel

/-- A guarded flight. -/
def guardedFlight (k : EngState) (protect : Option Src) : State :=
  let s := if k = .armed then flight .armed (fast 0 10) (film 1 0) (inState .armed) else flying k
  s.setIsl 0 { s.isl 0 with emergEnable := true, protect := protect }

theorem witness_emergency_in_flight :
    (∀ protect ∈ [none, some (1 : Src), some 2],
      (guardedFlight .armed protect).Carries 0 (inState .armed) 1 .armed
      ∧ (guardedFlight .rolling protect).Carries 0 (inState .rolling) 1 .rolling
      ∧ (guardedFlight .ready protect).Carries 0 (inState .ready) 1 .ready
      ∧ ∀ k ∈ [EngState.armed, .rolling, .ready], let s := guardedFlight k protect
        RundownsFit s ∧ CuesFitEngines s ∧ (s.isl 0).emergEnable = true ∧ ((s.src 0).motor || s.isLive 0) = true
        ∧ (s.src 0).conds.lampFail = false ∧ s.alarmRoom ∧ s.rundown 0 = [5])
    ∧ (guardedFlight .armed (some 2)).usableProtect 0 = some 2 ∧ ((guardedFlight .armed (some 2)).src 2).inputPos = some 2
    ∧ (guardedFlight .ready (some 1)).usableProtect 0 = some 1 ∧ (guardedFlight .rolling none).usableProtect 0 = none
    ∧ (guardedFlight .armed none).usableProtect 0 = none := by
  refine ⟨fun protect h => ?_, by decide +kernel⟩
  simp only [List.mem_cons, List.not_mem_nil, or_false] at h
  rcases h with rfl | rfl | rfl <;> refine ⟨carries_of (by decide +kernel), carries_of (by decide +kernel),
    carries_of (by decide +kernel), fun k hk => ?_⟩ <;> simp only [List.mem_cons, List.not_mem_nil, or_false] at hk <;>
    rcases hk with rfl | rfl | rfl <;>
    exact ⟨by unfold RundownsFit; decide +kernel, cuesFit_of (by decide +kernel), by unfold State.alarmRoom; decide +kernel⟩

theorem witness_mirror_lines : mirrorReading 1 = (part.isl 0).sensed ∧ part.resetAsserted = false
    ∧ mirrorReading 2 ≠ (part.isl 0).sensed ∧ (mirrorReading 2).isSome = true ∧ mirrorReading 0 = none
    ∧ (part.isl 0).sensed.isSome = true ∧ (part.isl 0).driftTimer = none ∧ (part.eng 0).moving = false ∧ part.quiet 0
    ∧ (State.reset.isl 0).driftTimer = some 6000 ∧ State.reset.alarms.records.length ≤ 12 := by
  refine ⟨by decide +kernel, by decide +kernel, by decide +kernel, by decide +kernel, by decide +kernel, by decide +kernel,
    by decide +kernel, by decide +kernel, (quiet_part 0).1, by decide +kernel⟩

theorem witness_confirm : let c := { inState .firing with fireErr := some 3 }
    firing.resetAsserted = false ∧ mirrorReading 2 = some 1 ∧ (firing.isl 0).sensed ≠ some 1
    ∧ (firing.eng 0).state = .switching ∧ (firing.eng 0).switchKind = some .cue ∧ (firing.eng 0).drive = some 1
    ∧ firing.current 0 = some c ∧ c.island = 0 ∧ firing.rundown 0 = [c.id] ∧ (firing.isl 0).emergEnable = false
    ∧ (firing.src 0).lamp = true ∧ (firing.src 0).isFilm = true ∧ c.keep = true ∧ (firing.src 0).motor = true
    ∧ (firing.src 0).pos = some 1000 ∧ 0 < (firing.src 0).tail
    ∧ (firing.after (.mirrorSenseChange 0 2)).live 0 ≠ some c.subject
    ∧ firing.alarms.records.length ≤ 12 ∧ c.fireErr = some 3 ∧ c.slipLimit = some 2 ∧ 2 < (3 : Int).natAbs
    ∧ ((firing.setSrc 0 (fast 0 1000)).src 0).tail = 0 := by decide +kernel

theorem witness_confirm_not_kept : let c := { inState .firing with keep := false }
    let s : State := { firing with cues := [c] }
    s.current 0 = some c ∧ c.keep = false ∧ s.rundown 0 = [c.id] ∧ c.island = 0 := by decide +kernel

/-- The CUT, the EMERGENCY and the RETURN whose confirms end them: the origin of the CUT runs with a tail, or with none. -/
theorem witness_confirm_other_moves :
    let hung := (onAir.setSrc 0 { fast 0 1000 with tail := 24 }).setIsl 0 { part.isl 0 with mirrorLines := 0 }
    let back := hung.setEng 0 { Engine.idle with state := .returning, switchKind := some .cue, returnPos := some 0,
                                                 drive := some 0, attempts := some 1, attemptTimer := some 6000 }
    (∀ s ∈ [moving hung .cut 1, moving hung .emergency 1], s.resetAsserted = false ∧ (s.isl 0).sensed ≠ some 1
      ∧ (s.eng 0).drive = some 1 ∧ (s.eng 0).state = .switching ∧ (s.rundown 0 = [] ∧ (s.eng 0).cue = none)
      ∧ (s.isl 0).emergEnable = false ∧ s.sourceAt 0 1 = some 1 ∧ (s.src 1).lockout = none ∧ (s.src 1).lamp = true
      ∧ (s.src 1).conds.lampFail = false ∧ (s.eng 0).origin = some (some 0) ∧ (s.src 0).lamp = true
      ∧ (s.src 0).isFilm = true ∧ (s.src 0).motor = true ∧ (s.src 0).pos = some 1000 ∧ 0 < (s.src 0).tail
      ∧ (s.after (.mirrorSenseChange 0 2)).live 0 ≠ some 0)
    ∧ ((moving hung .cut 1).eng 0).switchKind = some .cut ∧ ((moving hung .emergency 1).eng 0).switchKind = some .emergency
    ∧ ((moving onAir .cut 1).src 0).tail = 0 ∧ mirrorReading 2 = some 1
    ∧ (back.resetAsserted = false ∧ mirrorReading 1 = some 0 ∧ (back.isl 0).sensed ≠ some 0 ∧ (back.eng 0).drive = some 0
      ∧ (back.eng 0).state = .returning ∧ back.rundown 0 = [] ∧ (back.eng 0).cue = none
      ∧ (back.isl 0).emergEnable = false ∧ back.sourceAt 0 0 = some 0) := by decide +kernel

/-- A CUT from S1 to S2 with the mirror BETWEEN, at one of its attempts. -/
def cutting (k : Nat) : State := moving (part.setIsl 0 { part.isl 0 with mirrorLines := 0 }) .cut k

/-- A return to S1's position. -/
def returning : State :=
  part.setEng 0 { Engine.idle with state := .returning, switchKind := some .cut, returnPos := some 0, drive := some 0,
                                   attempts := some 1, attemptTimer := some 6000 }

theorem witness_attempts : ((cutting 2).eng 0).attemptTimer = some 6000 ∧ ((cutting 2).eng 0).drive = some 1
    ∧ ((cutting 2).eng 0).state = .switching ∧ ((cutting 2).eng 0).attempts = some 2 ∧ 2 < 3
    ∧ ((cutting 2).isl 0).driftTimer = none ∧ ((cutting 2).isl 0).liveNone = false
    ∧ ((cutting 3).eng 0).attempts = some 3 ∧ ((cutting 3).eng 0).switchKind = some .cut ∧ ((cutting 3).eng 0).cue = none
    ∧ ((cutting 3).eng 0).returnPos = some 0 ∧ ((cutting 3).isl 0).sensed ≠ some 0 ∧ (cutting 3).sourceAt 0 1 = some 1
    ∧ (cutting 3).rundown 0 = [] ∧ (cutting 3).alarms.records.length ≤ 12 ∧ (returning.eng 0).state = .returning
    ∧ (returning.eng 0).attemptTimer = some 6000 ∧ (returning.eng 0).drive = some 0
    ∧ (returning.rundown 0 = [] ∧ (returning.eng 0).cue = none) ∧ (returning.isl 0).emergEnable = false := by decide +kernel

/-- A CUE switch at its third attempt, with the mirror BETWEEN or never moved. -/
def failing (lines : BitVec 4) : State :=
  (firing.setEng 0 { firing.eng 0 with attempts := some 3 }).setIsl 0 { firing.isl 0 with mirrorLines := lines }

theorem witness_cue_failure : let c := { inState .firing with fireErr := some 3 }
    (∀ lines ∈ [(0 : BitVec 4), 1], (failing lines).Carries 0 c 1 .switching ∧ RundownsFit (failing lines)
      ∧ CuesFitEngines (failing lines) ∧ ((failing lines).eng 0).attempts = some 3
      ∧ ((failing lines).eng 0).switchKind = some .cue ∧ ((failing lines).eng 0).returnPos = some 0
      ∧ ((failing lines).eng 0).attemptTimer = some 6000 ∧ ((failing lines).eng 0).drive = some 1
      ∧ (failing lines).alarmRoom ∧ (failing lines).rundown 0 = [c.id])
    ∧ ((failing 0).isl 0).sensed ≠ some 0 ∧ ((failing 1).isl 0).sensed = some 0 ∧ ((failing 1).isl 0).emergEnable = false := by
  refine ⟨fun lines h => ?_, by decide +kernel⟩
  simp only [List.mem_cons, List.not_mem_nil, or_false] at h
  rcases h with rfl | rfl <;> exact ⟨carries_of (by decide +kernel), by unfold RundownsFit; decide +kernel,
    cuesFit_of (by decide +kernel), by unfold State.alarmRoom; decide +kernel⟩

theorem witness_emergency_failure : let s := moving (part.setIsl 0 { part.isl 0 with mirrorLines := 0 }) .emergency 3
    (s.eng 0).state = .switching ∧ (s.eng 0).attempts = some 3 ∧ (s.eng 0).switchKind = some .emergency
    ∧ s.sourceAt 0 1 = some 1 ∧ (s.rundown 0 = [] ∧ (s.eng 0).cue = none) ∧ s.alarms.records.length ≤ 12
    ∧ (s.eng 0).attemptTimer = some 6000 ∧ (s.eng 0).drive = some 1 ∧ s.alarm (.island 0) .mirrorFault = none := by
  decide +kernel

theorem witness_run_grant : let s := owed part 1 .run
    s.arbiter.due = ⟨1, .run⟩ :: [] ∧ 0 < s.arbiter.free ∧ (s.src 1).lamp = true
    ∧ (∀ i, (s.src 1).island = some i → s.rundown i = [] ∧ (s.eng i).cue = none) := by decide +kernel

/-- An ARMED cue whose grant is decided, with O a number of frames short of the trigger. -/
def granted (short : Int) (policy : LatePolicy) : State :=
  owed (carried (onAir.setSrc 0 (fast 0 (1000 - short))) .armed { inState .armed with policy := some policy }) 1 (.engine 0)

theorem witness_engine_grant : let s := granted 96 .abandon
    let c := { inState .armed with policy := some .abandon }
    s.arbiter.due = ⟨1, .engine 0⟩ :: [] ∧ 0 < s.arbiter.free ∧ (s.src 1).isFilm = true ∧ (s.src 1).film = true
    ∧ (s.src 1).lamp = true ∧ (s.src 1).lockout = none ∧ (s.src 1).island = some 0 ∧ (s.eng 0).state = .armed
    ∧ (s.eng 0).takePending = false ∧ (s.eng 0).holdPicture = false ∧ (s.eng 0).triggerReached = false
    ∧ s.current 0 = some c ∧ s.head 0 = some c ∧ c.island = 0 ∧ c.state = .armed ∧ c.partner = some 1 ∧ c.subject ≠ 1
    ∧ s.live 0 = some c.subject ∧ (c.mode = .position → (s.src c.subject).isRunning = true)
    ∧ s.slipOf 0 c = some 0 := by decide +kernel

/-- The window of 4000 ms is 96 frames of O; the slip limit is 2. -/
theorem witness_engine_grant_slips : let c (p : LatePolicy) : CueRec := { inState .armed with policy := some p }
    ((granted 94 .abandon).slipOf 0 (c .abandon)).all (· ≤ 2) = true
    ∧ ((granted 93 .abandon).slipOf 0 (c .abandon)).any (2 < ·) = true
    ∧ ((granted 93 .holdForPicture).slipOf 0 (c .holdForPicture)).any (2 < ·) = true
    ∧ (granted 93 .abandon).current 0 = some (c .abandon)
    ∧ (granted 93 .holdForPicture).current 0 = some (c .holdForPicture)
    ∧ (granted 93 .fireAtMark).current 0 = some (c .fireAtMark) := by decide +kernel

/-- The same at an engine with the flags given, and with a window of its own. -/
def grantedAt (short : Int) (policy : LatePolicy) (take reached : Bool) (window : Nat) : State :=
  let s := granted short policy
  s.setEng 0 { s.eng 0 with takePending := take, triggerReached := reached, window := some window }

/-- With take-pending no slip is judged; with trigger reached each late policy meets a grant, late or within its limit. -/
theorem witness_engine_grant_flags : let c (p : LatePolicy) : CueRec := { inState .armed with policy := some p }
    ((grantedAt 93 .abandon true false 4000).slipOf 0 (c .abandon) = none
      ∧ ((grantedAt 93 .abandon true false 4000).eng 0).triggerReached = false)
    ∧ (∀ p ∈ [LatePolicy.fireAtMark, .holdForPicture, .abandon], let s := grantedAt 0 p false true 0
      s.arbiter.due = ⟨1, .engine 0⟩ :: [] ∧ 0 < s.arbiter.free ∧ (s.eng 0).state = .armed ∧ s.current 0 = some (c p)
      ∧ s.head 0 = some (c p) ∧ s.live 0 = some 0 ∧ (s.src 0).isRunning = true ∧ (s.eng 0).triggerReached = true
      ∧ (s.eng 0).takePending = false ∧ (s.src 1).inputPos = some 1 ∧ (s.slipOf 0 (c p)).all (· ≤ 2) = true)
    ∧ ((grantedAt 0 .abandon false true 4000).slipOf 0 (c .abandon)).any (2 < ·) = true := by decide +kernel

theorem witness_choice : nextInTurn 5 [⟨3, .run⟩, ⟨6, .run⟩] = some ⟨6, .run⟩ ∧ part.arbiter.spare = true
    ∧ part.arbiter.waits = [] ∧ waiting.slotHeld 3 = true ∧ waiting.arbiter.slot1 ≠ waiting.arbiter.slot2
    ∧ waiting.arbiter.due.length = waiting.arbiter.free ∧ waiting.arbiter.waits ≠ []
    ∧ (let s := { waiting with arbiter := { waiting.arbiter with slot1 := none } }
      s.arbiter.spare = true ∧ nextInTurn s.arbiter.turnFrom s.arbiter.waits = some ⟨0, .run⟩)
    ∧ (let s := { waiting with arbiter := { waiting.arbiter with waits := [] } }
      s.slotHeld 4 = true ∧ s.arbiter.waits = [] ∧ s.arbiter.due.length = s.arbiter.free)
    ∧ (owed part 1 .run).arbiter.due = [] ++ [⟨1, .run⟩] ∧ part.arbiter.due = [] := by decide +kernel

theorem witness_configure : part.takes .desk = true ∧ part.controlsOf .desk 3 = true ∧ part.controls .desk 0 = true
    ∧ (1600 ≤ 1600 ∧ 1600 ≤ 3000 ∧ 15000 ≤ 15000 ∧ 240 ≤ 400 ∧ 480 ≤ 480 ∧ 240 ≤ ceilDiv (1600 * 15000) 100000)
    ∧ part.inUse 3 = false ∧ part.changeBarred 3 ⟨.film16, some 0, some 3, 1600, 15000, 240, 480⟩ = false
    ∧ part.clashes 3 ⟨.film16, some 0, some 3, 1600, 15000, 240, 480⟩ = false
    ∧ part.inUse 1 = false ∧ part.changeBarred 1 ⟨.unused, none, none, 2400, 0, 0, 0⟩ = false
    ∧ part.changeBarred 1 ⟨.still, some 0, some 1, 2400, 0, 0, 0⟩ = false
    ∧ part.changeBarred 1 ⟨.film35, some 0, some 1, 2400, 0, 0, 0⟩ = false
    ∧ part.clashes 1 ⟨.film35, some 0, some 1, 2400, 0, 0, 0⟩ = false := by decide +kernel

/-- The protect source of I1 moves to I2; a motor that runs off air meets a new n; a film source too slow for its new n. -/
theorem witness_configure_effects : let away : SourceConfig := ⟨.film35, some 1, some 1, 2400, 0, 0, 0⟩
    let here (n : Nat) : SourceConfig := ⟨.film35, some 0, some 1, n, 0, 0, 0⟩
    let s := part.setIsl 0 { part.isl 0 with protect := some 1 }
    let u (r : Nat) : State := part.setSrc 1 { fast 1 0 with rate := r }
    ((s.src 1).island = some 0 ∧ (s.isl 0).protect = some 1 ∧ s.controlsOf .desk 1 = true ∧ s.controls .desk 1 = true
      ∧ s.inUse 1 = false ∧ s.changeBarred 1 away = false ∧ s.clashes 1 away = false)
    ∧ ((u 2400).takes .desk = true ∧ (u 2400).inUse 1 = false ∧ (u 2400).changeBarred 1 (here 2600) = false
      ∧ (u 2400).clashes 1 (here 2600) = false
      ∧ (((u 2400).after (.configureSource .desk ([2, 2, 1, 2] ++ wordBytes 2600 ++ wordBytes 0 ++ wordBytes 0
          ++ wordBytes 0))).src 1).motor = true)
    ∧ ((u 900).inUse 1 = false ∧ (u 900).changeBarred 1 (here 2400) = false ∧ 5 * ((u 900).src 1).rate < 2 * 2400) := by
  decide +kernel

/-- The desk commands every source of the part. -/
theorem commands_part (x : Src) (h : x < 3) : part.commands .desk x ∧ onAir.commands .desk x := by
  have h : ∀ x : Src, x < 3 → (part.takes .desk = true ∧ (part.src x).configured = true ∧ part.controlsOf .desk x = true)
      ∧ (onAir.takes .desk = true ∧ (onAir.src x).configured = true ∧ onAir.controlsOf .desk x = true) := by decide +kernel
  exact h x ‹_›

theorem witness_zero_counter : part.commands .desk 1 ∧ (part.src 1).isFilm = true ∧ (part.src 1).film = true
    ∧ (part.src 1).rate = 0 ∧ (part.src 1).motor = false ∧ (part.src 1).inch = false ∧ part.inFlightParty 1 = false
    ∧ formOf (1 : Byte).toNat = some .feet ∧ posArg .feet (part.src 1).stype.fpf 0x9F 0xFF 15 = none
    ∧ posArg .feet (part.src 1).stype.fpf 0x82 0 0 = some (-8192)
    ∧ formOf (0 : Byte).toNat = some .frames ∧ posArg .frames (part.src 1).stype.fpf 0x01 0xFF 0xFF = some 131071 := by
  refine ⟨(commands_part 1 (by decide)).1, by decide +kernel⟩

/-- A MARK on the source to be zeroed: resolved and WAITING with no counter; ARMED, and unresolved, with one. -/
theorem witness_zero_counter_marks : let c : CueRec := { markCue with subject := 1 }
    let unread := part.setSrc 1 { film 1 0 with pos := none }
    let cs : List (State × CueRec) := [(unread, { c with state := .waiting }), (part, c),
      (unread, { c with state := .waiting, resT := none, unresolved := some .noTag })]
    ∀ e ∈ cs, let s := holding e.1 e.2
      RundownsFit s ∧ s.cue e.2.id = some e.2 ∧ e.2.kind = .mark ∧ e.2.subject = 1 ∧ (∀ i, (s.eng i).cue ≠ some e.2.id)
      ∧ (s.takes .desk = true ∧ (s.src 1).configured = true ∧ s.controlsOf .desk 1 = true) ∧ (s.src 1).isFilm = true
      ∧ (s.src 1).film = true ∧ (s.src 1).rate = 0 ∧ (s.src 1).motor = false ∧ (s.src 1).inch = false
      ∧ s.inFlightParty 1 = false := by
  unfold RundownsFit
  decide +kernel

theorem witness_run_and_stop : part.commands .desk 1 ∧ (part.src 1).isStill = false ∧ (part.src 1).lockout = none
    ∧ (part.src 1).hold = false ∧ (part.src 1).state ≠ .inching ∧ (part.src 1).state ≠ .unloaded
    ∧ part.isIncoming 1 = false ∧ (part.src 1).motor = false ∧ part.quietAt 1 ∧ onAir.commands .desk 0
    ∧ (onAir.src 0).motor = true ∧ (onAir.src 0).isStill = false := by
  refine ⟨(commands_part 1 (by decide)).1, by decide +kernel, by decide +kernel, by decide +kernel, by decide +kernel,
    by decide +kernel, by decide +kernel, by decide +kernel, fun i _ => (quiet_part i).1, (commands_part 0 (by decide)).2,
    by decide +kernel⟩

theorem witness_inch_to : part.commands .desk 1 ∧ (part.src 1).lockout = none ∧ (part.src 1).state = .parked
    ∧ (part.src 1).isFilm = true ∧ part.arbiter.asked 1 = false ∧ part.isIncoming 1 = false
    ∧ formOf (0 : Byte).toNat = some .frames ∧ posArg .frames (part.src 1).stype.fpf 0 0 1 = some 1
    ∧ (part.src 1).pos = some 0 ∧ (0 : Int) < 1 := by
  refine ⟨(commands_part 1 (by decide)).1, by decide +kernel⟩

theorem witness_dowser : part.commands .desk 2 ∧ part.commands .desk 1 ∧ part.isLive 2 = false
    ∧ part.inFlightParty 2 = false ∧ part.isLive 1 = false ∧ part.inFlightParty 1 = false
    ∧ ((part.src 2).lockout.isSome || (part.src 2).filmDark || ((part.src 2).isStill && !(part.src 2).ready)) = false
    ∧ ((part.src 1).lockout.isSome || (part.src 1).filmDark || ((part.src 1).isStill && !(part.src 1).ready)) = true
    ∧ (part.port .panel).enSource = true ∧ (part.src 2).dowser = false ∧ (part.port .panel).notices.length < 32
    ∧ ((part.setSrc 2 { part.src 2 with dowser := true }).src 2).dowser = true
    ∧ (part.setSrc 2 { part.src 2 with dowser := true }).isLive 2 = false
    ∧ (part.setSrc 2 { part.src 2 with dowser := true }).inFlightParty 2 = false
    ∧ ((part.setSrc 2 { part.src 2 with dowser := true }).port .panel).enSource = true := by
  refine ⟨(commands_part 2 (by decide)).1, (commands_part 1 (by decide)).1, by decide +kernel⟩

theorem witness_hold_and_lockout : part.commands .desk 1 ∧ part.quietAt 1 ∧ part.commands .desk 0 ∧ part.isLive 0 = true
    ∧ part.isLive 1 = false ∧ (part.src 1).lockout = none
    ∧ (let v := (part.setSrc 1 { film 1 0 with lockout := some .stall, rate := 1 }).src 1
      (v.lockout = some .stall ∨ v.lockout = some .runupTimeout) ∧ 0 < v.rate)
    ∧ (let v := (part.setSrc 1 { film 1 0 with lockout := some .filmBreak }).src 1
      ¬(v.conds.lampFail = true ∨ (v.lockout = some .filmBreak ∧ v.film = false) ∨ (v.lockout = some .lampFail ∧ v.lamp = false)
        ∨ ((v.lockout = some .stall ∨ v.lockout = some .runupTimeout) ∧ 0 < v.rate))) := by
  refine ⟨(commands_part 1 (by decide)).1, fun i _ => (quiet_part i).1, (commands_part 0 (by decide)).1, by decide +kernel⟩

theorem witness_set_segment : part.commands .desk 0 ∧ (part.src 0).isStill = false ∧ formOf (0 : Byte).toNat = some .frames
    ∧ posArg .frames (part.src 0).stype.fpf 0 0 10 = some ((10 : Nat) : Int) ∧ 1 ≤ 4095 ∧ 4095 ≤ 4095 ∧ 1 ≤ 65535
    ∧ 65535 ≤ 65535 ∧ 10 + 65535 ≤ 131071 ∧ MapFits (part.map 0)
    ∧ (∀ h ∈ part.map 0, h.tag ≠ 4095 → 10 + 65535 ≤ h.first ∨ h.first + h.length ≤ 10) ∧ (part.map 0).length < 12
    ∧ (∃ h ∈ (full.map 0), h.tag = 3) ∧ (∀ h ∈ full.map 0, h.tag ≠ 4) := by
  refine ⟨(commands_part 0 (by decide)).1, by decide +kernel, by decide +kernel, by decide +kernel, by decide, by decide,
    by decide, by decide, by decide, ⟨by decide +kernel, by decide +kernel, by decide +kernel, by decide +kernel⟩,
    by decide +kernel⟩

/-- A cue with its trigger by story, resolved on a map of S1. -/
def storyCue (k : CueState) : CueRec := { inState k with trigger := some (.story 3 10 .atStart), resT := some 110 }

/-- A state of a story cue, with its map. -/
def storied (k : CueState) : State :=
  let s := onAir.setMap 0 [⟨3, 100, 50⟩]
  match k with
  | .armed => carried s .armed (storyCue k)
  | .ready => carried (s.setSrc 1 (fast 1 50)) .ready (storyCue k)
  | _ => (holding s (storyCue k)).setRundown 0 (if k = .waiting then [5] else [])

/-- A MARK with its trigger by story. -/
def storyMark : CueRec := { markCue with trigger := some (.story 3 10 .atStart), resT := some 110 }

theorem witness_map_change :
    (∀ k ∈ [CueState.waiting, .armed, .ready, .done], let s := storied k
      let t := s.after (.clearMap .desk [1])
      EngineFieldsFit s ∧ RundownsFit s ∧ CuesFitEngines s ∧ t.map 0 ≠ s.map 0 ∧ s.cue 5 = some (storyCue k)
      ∧ (storyCue k).storyOn 0 = true ∧ (storyCue k).held ≠ t.resolution (storyCue k)
      ∧ (t.resolution (storyCue k)).reason.isSome = true
      ∧ (s.takes .desk = true ∧ (s.src 0).configured = true ∧ s.controlsOf .desk 0 = true))
    ∧ (storied .waiting).head 0 = some (storyCue .waiting) ∧ (storied .waiting).passed (storyCue .waiting) = false
    ∧ (let s := holding (onAir.setMap 0 [⟨3, 100, 50⟩]) storyMark
      let t := s.after (.setSegment .desk [1, 0, 3, 0, 0, 0, 90, 0, 50])
      storyMark.storyOn 0 = true ∧ storyMark.held ≠ t.resolution storyMark ∧ (t.resolution storyMark).reason = none
      ∧ (t.src storyMark.subject).pos.isSome = true) := by
  refine ⟨fun k h => ?_, by decide +kernel⟩
  simp only [List.mem_cons, List.not_mem_nil, or_false] at h
  rcases h with rfl | rfl | rfl | rfl <;> exact ⟨by unfold EngineFieldsFit; decide +kernel,
    by unfold RundownsFit; decide +kernel, cuesFit_of (by decide +kernel), by decide +kernel⟩

/-- The same WAITING head, at an engine that does not move the mirror and at one in a CUT. -/
theorem witness_map_change_during_a_cut : let s := moving (storied .waiting) .cut 1
    let t := s.after (.clearMap .desk [1])
    (EngineFieldsFit s ∧ RundownsFit s ∧ CuesFitEngines s) ∧ (s.eng 0).moving = true
    ∧ ((storied .waiting).eng 0).moving = false ∧ s.head 0 = some (storyCue .waiting) ∧ t.map 0 ≠ s.map 0
    ∧ (storyCue .waiting).held ≠ t.resolution (storyCue .waiting)
    ∧ (t.resolution (storyCue .waiting)).reason.isSome = true ∧ (t.cue 5).map (·.blocked) = some (some .engineBusy) := by
  refine ⟨⟨by unfold EngineFieldsFit; decide +kernel, by unfold RundownsFit; decide +kernel, cuesFit_of (by decide +kernel)⟩, ?_⟩
  decide +kernel

/-- A full map of twelve segments of 10 frames. -/
def twelve : List Segment := (List.range 12).map (fun k => ⟨k + 1, 10 * k, 10⟩)

theorem witness_segment_refused : (∃ h ∈ [(⟨3, 100, 50⟩ : Segment)], h.tag ≠ 4 ∧ 149 < h.first + h.length ∧ h.first < 149 + 10)
    ∧ (∀ h ∈ [(⟨3, 100, 50⟩ : Segment)], h.tag ≠ 4 → 150 + 10 ≤ h.first ∨ h.first + h.length ≤ 150)
    ∧ 12 ≤ twelve.length ∧ (∀ h ∈ twelve, h.tag ≠ 13)
    ∧ (∀ h ∈ twelve, h.tag ≠ 13 → 120 + 10 ≤ h.first ∨ h.first + h.length ≤ 120)
    ∧ (∃ h ∈ twelve, h.tag = 12) ∧ (part.setMap 0 twelve).map 0 = twelve := by decide +kernel

theorem witness_story : ([] : List Segment) = [] ∧ (⟨17, 2400, 3600⟩ : Segment) ∈ [(⟨17, 2400, 3600⟩ : Segment)]
    ∧ [(⟨17, 2400, 3600⟩ : Segment)].Pairwise (fun g h => g.tag ≠ h.tag) ∧ 3600 < 3601 ∧ 3600 ≤ 3600
    ∧ [(⟨17, 2400, 3600⟩ : Segment)] ≠ [] ∧ (∀ g ∈ [(⟨17, 2400, 3600⟩ : Segment)], g.tag ≠ 9)
    ∧ cue.trigger = some (.absolute 1000) ∧ cue.partner = some 1 ∧ cue.picture = some (.absolute 100) := by decide

theorem witness_story_resolves : resolveSpec [⟨3, 100, 50⟩] (.story 3 50 .atEnd) = .ok 100
    ∧ resolveSpec (part.map 0) (.absolute 1000) = .ok 1000 ∧ resolveSpec (part.map 1) (.absolute 100) = .ok 100
    ∧ resolveSpec (part.map 1) (.story 3 0 .atStart) = .error .noMap := ⟨rfl, rfl, rfl, rfl⟩

theorem witness_load_cue : part.takes .desk = true ∧ loadData.length = 21
    ∧ loadNumbers loadData = some (5, .changeover, 0, some 1) ∧ (part.src 0).configured = true
    ∧ (∀ x, some (1 : Src) = some x → (part.src x).configured = true) ∧ part.controlsOf .desk 0 = true
    ∧ formOf (natAt loadData 6) = some .frames
    ∧ part.loadRecord loadData .frames 5 .changeover 0 (some 1) = some { cue with resT := none, resQ := none }
    ∧ part.cue 5 = none ∧ part.cues.length < 128 := by decide +kernel

/-- A LOAD CUE whose I is the slide unit S3: it carries no picture spec. -/
theorem witness_load_cue_slide : let d : List Byte := [0, 5, 1, 1, 3, 1, 0, 1, 0, 3, 232, 0, 0, 0, 0, 0, 0, 0, 2, 2, 1]
    loadNumbers d = some (5, .changeover, 0, some 2) ∧ (part.src 2).configured = true ∧ (part.src 2).isFilm = false
    ∧ (part.loadRecord d .frames 5 .changeover 0 (some 2)).isSome = true ∧ (part.src 1).isFilm = true := by decide +kernel

/-- An AMEND CUE of every field, to the limits of the trim and the slip limit. -/
def amendData : List Byte := [0, 5, 0x3F, 0, 1, 0, 3, 233, 0, 1, 0, 0, 101, 0, 48, 3, 48, 0]

theorem witness_amend_cue : let s := holding part cue
    s.takes .desk = true ∧ s.controls .desk cue.island = true ∧ s.cue cue.id = some cue ∧ 1 ≤ cue.id ∧ cue.id ≤ 999
    ∧ amendData.length = 18 ∧ wordAt amendData 0 = cue.id ∧ cue.state.pastArmed = false
    ∧ cue.carriesAmended amendData = true ∧ formOf (natAt amendData 3) = some .frames
    ∧ (s.amendRecord amendData .frames cue).isSome = true ∧ (inState .rolling).state.pastArmed = true := by decide +kernel

/-- The cue, unplaced, and another record at the head of the rundown. -/
def behind (s : State) (h : CueRec) : State := { s with cues := [h, cue] }.setRundown 0 [h.id]

/-- A STOP at the head that waits for S2 to run; an ARMED one of the running S1. -/
def waitingHead : CueRec := { stopCue with subject := 1 }

/-- An AMEND CUE of a record: the fields marked, with the trigger at frame 1001. -/
def amendment (id mask : Byte) : List Byte := [0, id, mask, 0, 1, 0, 3, 233, 0, 1, 0, 0, 101, 0, 48, 3, 48, 0]

/-- The hypotheses of an amendment of a record to another, as one test. -/
def amends (s : State) (c new : CueRec) (d : List Byte) : Bool :=
  s.takes .desk && s.controls .desk c.island && s.cue c.id == some c && decide (wordAt d 0 = c.id) && !c.state.pastArmed
    && c.carriesAmended d && s.amendRecord d .frames c == some new

/-- A WAITING head, an unplaced record and one behind a head that stands take a new trigger; an ARMED head takes a new slip limit
or a new trigger; MARKs take a new trigger; and a keep mark leaves an ARMED record as it is. -/
theorem witness_amend_effects : let late (c : CueRec) : CueRec := { c with trigger := some (.absolute 1001) }
    let s := (holding onAir cue).setRundown 0 [5]
    let u := carried onAir .armed (inState .armed)
    let b := (behind onAir waitingHead).setRundown 0 [6, 5]
    let slack := { inState .armed with slipLimit := some 48 }
    (amends s cue (late cue) (amendment 5 1) ∧ s.head 0 = some cue ∧ cue.held ≠ s.resolution (late cue))
    ∧ (amends (holding onAir cue) cue (late cue) (amendment 5 1) ∧ (holding onAir cue).placed cue = false)
    ∧ (amends b cue (late cue) (amendment 5 1) ∧ b.head 0 = some waitingHead ∧ waitingHead.id ≠ cue.id
      ∧ b.passed waitingHead = false)
    ∧ (amends u (inState .armed) slack (amendment 5 0x10) ∧ u.head 0 = some (inState .armed)
      ∧ slack.slipLimit ≠ (inState .armed).slipLimit)
    ∧ (amends u (inState .armed) (late (inState .armed)) (amendment 5 1)
      ∧ (inState .armed).held ≠ u.resolution (late (inState .armed)))
    ∧ (amends (holding onAir markCue) markCue (late markCue) (amendment 7 1) ∧ markCue.kind = .mark
      ∧ markCue.held ≠ (holding onAir markCue).resolution (late markCue))
    ∧ amends u (inState .armed) { inState .armed with keep := false } (amendment 5 0x20) := by decide +kernel

theorem witness_amend_fits : let s := (holding onAir cue).setRundown 0 [5]
    let u := carried onAir .armed (inState .armed)
    let b := (behind onAir waitingHead).setRundown 0 [6, 5]
    (RundownsFit s ∧ RundownsFit u ∧ RundownsFit b ∧ RundownsFit (holding onAir cue))
    ∧ (EngineFieldsFit s ∧ EngineFieldsFit u ∧ EngineFieldsFit b ∧ EngineFieldsFit (holding onAir cue))
    ∧ CuesFitEngines s ∧ CuesFitEngines u ∧ CuesFitEngines b ∧ CuesFitEngines (holding onAir cue) := by
  refine ⟨⟨?_, ?_, ?_, ?_⟩, ⟨?_, ?_, ?_, ?_⟩, cuesFit_of ?_, cuesFit_of ?_, cuesFit_of ?_, cuesFit_of ?_⟩
  all_goals first | decide +kernel | (unfold RundownsFit; decide +kernel) | (unfold EngineFieldsFit; decide +kernel)

/-- An ARMED cue whose slip limit changes is disarmed and arms again as the head, its preroll computed afresh (R56). -/
theorem test_amend_disarms : let s := carried onAir .armed { inState .armed with startPoint := some 7 }
    let t := s.after (.amendCue .desk (amendment 5 0x10))
    (t.cue 5).map (fun r => (r.state, r.slipLimit, r.startPoint == some 7)) = some (.armed, some 48, false) := by decide +kernel

/-- A grant of slip 3 under ABANDON, slip limit 2, ends the cue; a RETIRE CUE at that tick is refused PROTECTED (R66). -/
theorem test_retire_meets_grant : let s := (granted 93 .abandon).after .slotGrant
    s.cue 5 ≠ none ∧ (told s (.retireCue .desk [0, 5])).take 1 = [10]
    ∧ (told { s with now := s.now + 1 } (.retireCue .desk [0, 5])).take 1 = [0] := by decide +kernel

/-- The record of the test above meets every hypothesis of the meeting. -/
theorem witness_retire_meets_grant : let s := (granted 93 .abandon).after .slotGrant
    (s.cue 5).any (fun c => c.meetsGrant s.now && decide (c.id = 5) && decide (c.island = 0)) = true
    ∧ s.takes .desk = true ∧ s.controls .desk 0 = true := by decide +kernel

theorem witness_retire_and_withdraw : let s := holding part cue
    let t := carried onAir .armed (inState .armed)
    (s.takes .desk = true ∧ s.controls .desk cue.island = true ∧ s.cue cue.id = some cue ∧ 1 ≤ cue.id ∧ cue.id ≤ 999)
    ∧ cue.state = .waiting ∧ (inState .missed).state.ended = true ∧ (inState .missed).meetsGrant s.now = false
    ∧ (t.takes .desk = true ∧ t.controls .desk 0 = true ∧ t.cue 5 = some (inState .armed))
    ∧ t.placed (inState .armed) = true ∧ (inState .armed).state = .armed
    ∧ ((holding part cue).setRundown 0 [5]).placed cue = true
    ∧ (((holding part cue).setRundown 0 [5]).eng 0).cue ≠ some cue.id := by decide +kernel

theorem witness_rundown_invariant : RundownsFit (carried onAir .armed (inState .armed))
    ∧ RundownsFit ((holding part cue).setRundown 0 [5]) ∧ RundownsFit (holding onAir cue)
    ∧ (part.takes .desk = true ∧ part.controls .desk 0 = true) := by
  unfold RundownsFit
  decide +kernel

theorem witness_place_cue : let s := holding onAir cue
    (s.takes .desk = true ∧ s.controls .desk cue.island = true ∧ s.cue cue.id = some cue ∧ 1 ≤ cue.id ∧ cue.id ≤ 999)
    ∧ cue.kind ≠ .mark ∧ cue.state = .waiting ∧ s.placed cue = false ∧ (s.rundown cue.island).length < 32
    ∧ placeOf (wordBytes cue.id ++ [1, 0, 0]) = some .head ∧ Place.head.lacks (s.rundown cue.island) = false
    ∧ s.headInFlight cue.island = false ∧ s.rundown cue.island = [] ∧ s.eng cue.island = Engine.idle
    ∧ s.passed cue = false ∧ s.blockWaiting cue.island cue = none
    ∧ (holding (onAir.setSrc 0 (fast 0 1000)) cue).passed cue = true
    ∧ (holding part cue).passed cue = false ∧ (holding part cue).blockWaiting cue.island cue = some .outgoingNotRunning := by
  decide +kernel

theorem witness_place_during_a_cut : let s := cutBetween
    (RundownsFit s ∧ EngineFieldsFit s ∧ CuesFitEngines s)
    ∧ (s.takes .desk = true ∧ s.controls .desk cue.island = true ∧ s.cue cue.id = some cue) ∧ s.placed cue = false
    ∧ s.rundown 0 = [] ∧ s.passed cue = false ∧ s.blockWaiting 0 cue = some .engineBusy
    ∧ s.blockOf 0 cue false = some .outgoingNotLive := by
  refine ⟨⟨by unfold RundownsFit; decide +kernel, by unfold EngineFieldsFit; decide +kernel, cuesFit_of (by decide +kernel)⟩, ?_⟩
  decide +kernel

theorem witness_place_at_head_and_end : let a := { stopCue with state := .armed }
    let s := behind onAir waitingHead
    let u := (behind onAir a).setEng 0 { Engine.idle with state := .armed, cue := some 6 }
    (RundownsFit s ∧ EngineFieldsFit s ∧ CuesFitEngines s ∧ RundownsFit u ∧ EngineFieldsFit u ∧ CuesFitEngines u)
    ∧ (s.takes .desk = true ∧ s.controls .desk cue.island = true ∧ s.cue cue.id = some cue ∧ u.cue cue.id = some cue)
    ∧ placeOf (wordBytes cue.id ++ [2, 0, 0]) = some .atEnd ∧ placeOf (wordBytes cue.id ++ [3, 0, 6]) = some (.after 6)
    ∧ (Place.after 6).lacks (s.rundown 0) = false ∧ s.head 0 = some waitingHead ∧ u.head 0 = some a
    ∧ s.headStands 0 waitingHead ∧ u.headStands 0 a ∧ s.headInFlight 0 = false ∧ u.headInFlight 0 = false
    ∧ s.placed cue = false ∧ u.placed cue = false ∧ s.passed cue = false ∧ s.blockWaiting 0 cue = none
    ∧ (u.setEng 0 Engine.idle).blockWaiting 0 cue = none
    ∧ (let r := behind part waitingHead
      r.blockWaiting 0 cue = some .outgoingNotRunning) := by
  refine ⟨⟨by unfold RundownsFit; decide +kernel, by unfold EngineFieldsFit; decide +kernel, cuesFit_of (by decide +kernel),
    by unfold RundownsFit; decide +kernel, by unfold EngineFieldsFit; decide +kernel, cuesFit_of (by decide +kernel)⟩, ?_⟩
  simp only [State.headStands, waitingHead, stopCue, cue]
  decide +kernel

theorem witness_rejudged : let s := flight .armed (fast 0 10) { film 1 0 with hold := true } (inState .armed)
    let u := flight .armed (fast 0 10) (film 1 0) (inState .armed)
    s.head 0 = some (inState .armed) ∧ (s.eng 0).state = .armed ∧ (s.blockOf 0 (inState .armed) true).isSome = true
    ∧ s.passed (inState .armed) = false ∧ u.head 0 = some (inState .armed) ∧ (u.eng 0).state = .armed
    ∧ u.blockOf 0 (inState .armed) true = none := by decide +kernel

/-- A WAITING head during a move and at an IDLE engine. -/
theorem witness_waiting_head_judged : let s := cutBetween.setRundown 0 [5]
    let u := (holding part cue).setRundown 0 [5]
    s.head 0 = some cue ∧ cue.state = .waiting ∧ s.passed cue = false ∧ (s.eng 0).moving = true
    ∧ u.head 0 = some cue ∧ u.passed cue = false ∧ (u.eng 0).state = .idle ∧ u.blockOf 0 cue false = some .outgoingNotRunning
    ∧ (∀ c ∈ u.cues, (u.rundown 0).contains c.id = true → c.state = .waiting) := by decide +kernel

theorem witness_preroll : 0 < (film 1 0).n ∧ 1600 ≤ 1600 ∧ 15000 ≤ 15000 ∧ 4800 ≤ 4800 ∧ 2000 ≤ 2000 ∧ 317000 ≤ 317000
    ∧ 6000 ≤ 6000 ∧ (131071 : Int) ≤ 131071 ∧ (0 : Int) - 8193 < -8192 := by decide

theorem witness_configure_island : part.takes .desk = true ∧ part.controls .desk 0 = true ∧ 2000 ≤ 2000
    ∧ (∀ y, some (2 : Src) = some y → (part.src y).configured = true ∧ (part.src y).island = some 0) ∧ part.rundown 0 = []
    ∧ (part.eng 0).cue = none := by decide +kernel

/-- A READY cue with S2 at speed. -/
def ready : State := carried (onAir.setSrc 1 (fast 1 97)) .ready (inState .ready)

theorem witness_fire_now : (part.takes .desk = true ∧ part.controls .desk 0 = true) ∧ (part.eng 0).state = .idle
    ∧ ((cutting 1).takes .desk = true ∧ (cutting 1).controls .desk 0 = true) ∧ ((cutting 1).eng 0).moving = true
    ∧ (ready.takes .desk = true ∧ ready.controls .desk 0 = true) ∧ (ready.eng 0).state = .ready
    ∧ (ready.eng 0).takePending = false ∧ ready.current 0 = some (inState .ready) ∧ ready.head 0 = some (inState .ready)
    ∧ (inState .ready).kind = .changeover ∧ (inState .ready).partner = some 1 ∧ (ready.src 1).inputPos = some 1 := by
  decide +kernel

theorem witness_fire_stop : let c := { stopCue with state := .armed }
    let s := carried onAir .armed c
    (s.takes .desk = true ∧ s.controls .desk 0 = true) ∧ (s.eng 0).state = .armed ∧ s.current 0 = some c ∧ c.kind = .stop
    ∧ c.state = .armed ∧ c.keep = true ∧ c.island = 0
    ∧ (carried onAir .armed { c with keep := false }).current 0 = some { c with keep := false } := by decide +kernel

theorem witness_fire_armed : let s := carried onAir .armed (inState .armed)
    (s.takes .desk = true ∧ s.controls .desk 0 = true) ∧ (s.eng 0).state = .armed ∧ (s.eng 0).takePending = false
    ∧ s.current 0 = some (inState .armed) ∧ s.head 0 = some (inState .armed) ∧ (inState .armed).kind = .changeover
    ∧ (inState .armed).partner = some 1 ∧ (s.src 1).isFilm = true ∧ s.blockOf 0 (inState .armed) true = none
    ∧ (inState .armed).slotRequested = false := by decide +kernel

/-- FIRE NOW in ROLLING with S2 short of its speed, take-pending set or not; and at an ARMED cue with take-pending set. -/
theorem witness_fire_rolling : let s := triggerNear .rolling (rollingCue .abandon)
    let set (s : State) : State := s.setEng 0 { s.eng 0 with takePending := true }
    let u := set (carried onAir .armed { inState .armed with slotRequested := true })
    (s.takes .desk = true ∧ s.controls .desk 0 = true) ∧ s.current 0 = some (rollingCue .abandon)
    ∧ s.head 0 = some (rollingCue .abandon) ∧ (s.eng 0).state = .rolling ∧ (rollingCue .abandon).partner = some 1
    ∧ (s.src 1).lostIncoming = false ∧ s.lostOutgoing 0 (rollingCue .abandon) = false ∧ (s.src 1).state ≠ .atSpeed
    ∧ (s.src 1).isFilm = true ∧ (s.eng 0).takePending = false
    ∧ ((set s).eng 0).takePending = true ∧ (set s).current 0 = some (rollingCue .abandon)
    ∧ (set s).lostOutgoing 0 (rollingCue .abandon) = false
    ∧ (u.eng 0).state = .armed ∧ (u.eng 0).takePending = true
    ∧ u.current 0 = some { inState .armed with slotRequested := true }
    ∧ u.blockOf 0 { inState .armed with slotRequested := true } true = none := by decide +kernel

/-- FIRE NOW in ROLLING sets take-pending, and keeps hold-for-picture (R117). -/
theorem test_fire_now_rolling : let s := triggerNear .rolling (rollingCue .abandon)
    let t := (s.setEng 0 { s.eng 0 with holdPicture := true }).after (.fireNow .desk [1])
    (t.eng 0).takePending = true ∧ (t.eng 0).holdPicture = true ∧ (t.eng 0).state = .rolling := by decide +kernel

theorem witness_abort_and_reset : (ready.eng 0).carrying = true ∧ ready.current 0 = some (inState .ready)
    ∧ (inState .ready).island = 0 ∧ (inState .ready).partner = some 1 ∧ (ready.eng 0).state ≠ .armed
    ∧ (ready.eng 0).moving = false ∧ ((ready.eng 0).state = .rolling ∨ (ready.eng 0).state = .ready) := by decide +kernel

theorem witness_cut_to : (part.takes .desk = true ∧ part.controls .desk 0 = true) ∧ (part.src 2).configured = true
    ∧ (part.src 2).island = some 0 ∧ (part.src 2).inputPos = some 2 ∧ (part.eng 0).state = .idle ∧ (part.src 2).lockout = none
    ∧ part.live 0 ≠ some 2 ∧ (∀ c ∈ part.cues, (part.rundown 0).contains c.id = true → c.state = .waiting) := by decide +kernel

/-- An alarm table of one length. -/
def alarms (n : Nat) : State :=
  { part with alarms := ⟨(List.range n).map (fun k =>
      ⟨.source (Fin.ofNat 8 k), if k < 8 then .overspeed else if k < 16 then .underspeed else .loopLoss, .warning, .raised, 99,
       none, none⟩), false, true⟩ }

theorem witness_raise : part.alarm (.island 0) .noProtect = none ∧ (alarms 23).alarms.records.length < 24
    ∧ (alarms 23).alarm (.island 0) .noProtect = none ∧ 24 ≤ (alarms 24).alarms.records.length
    ∧ (alarms 24).alarm (.island 0) .noProtect = none ∧ ((alarms 24).alarm (.source 0) .overspeed).isSome = true := by
  decide +kernel

theorem witness_acknowledge :
    let s := (part.raise (.source 0) .loopLoss .warning none none).raise (.island 0) .cueSlip .warning none none
    s.takes .desk = true ∧ (s.alarms.records.map (fun r => (r.object, r.cause))).Nodup
    ∧ (∃ r ∈ s.alarms.records, r.object.admits r.cause = true ∧ s.controlsObj .desk r.object = true
      ∧ r.cause.isCondition = true ∧ r.state ≠ .cleared)
    ∧ (∃ r ∈ s.alarms.records, r.object.admits r.cause = true ∧ s.controlsObj .desk r.object = true
      ∧ r.cause.isCondition = false)
    ∧ (∃ r ∈ s.alarms.records, s.controlsObj .panel r.object = false) ∧ s.controlsObj .desk (.source 0) = true
    ∧ (let u : State := { s with alarms := { s.alarms with overflow := true } }
      u.alarms.overflow = true ∧ ∃ r ∈ u.alarms.records, u.controlsObj .desk r.object = true
        ∧ (r.cause.isCondition = false ∨ r.state = .cleared)) := by decide +kernel

theorem witness_silence_bell : let s := part.raise (.island 0) .noProtect .urgent none none
    s.takes .desk = true ∧ (∃ r ∈ (s.after (.silenceBell .desk [])).alarms.records, r.severity = .urgent ∧ r.unseen = true) := by
  decide +kernel

theorem witness_control : part.takes .desk = true ∧ part.takes .panel = true ∧ islOf (5 : Byte).toNat = none
    ∧ islOf (0 : Byte).toNat = none ∧ (part.isl 0).control ≠ .panel ∧ (part.isl 0).control = .desk
    ∧ ((cutting 1).eng 0).state ≠ .idle ∧ ((cutting 1).eng 0).state ≠ .armed ∧ (part.eng 0).state = .idle
    ∧ Link.panel ≠ part.primaryLink ∧ Link.desk = part.primaryLink ∧ (part.port .desk).enIsland = true
    ∧ (part.port .desk).notices.length < 32 := by decide +kernel

theorem witness_reads : part.takes .desk = true ∧ formOf (1 : Byte).toNat = some .feet ∧ 1 ≤ 999 ∧ 999 ≤ 999
    ∧ (holding part { cue with id := 999 }).cue 999 = some { cue with id := 999 } ∧ part.cue 999 = none
    ∧ 31 < (32 : Byte).toNat ∧ (31 : Byte).toNat ≤ 31 ∧ 11 < (12 : Byte).toNat ∧ (11 : Byte).toNat ≤ 11
    ∧ (0 : Byte).toNat = 0 ∧ 8 < (9 : Byte).toNat ∧ 4 < (5 : Byte).toNat ∧ 1 < (2 : Byte).toNat
    ∧ 256 * (0 : Byte).toNat + (0 : Byte).toNat = 0 ∧ 999 < 256 * (3 : Byte).toNat + (232 : Byte).toNat
    ∧ 23 < (24 : Byte).toNat ∧ (23 : Byte).toNat ≤ 23 ∧ 15 < (16 : Byte).toNat ∧ (15 : Byte).toNat ≤ 15 := by decide +kernel

/-- A port whose set is full. -/
def crowded (n : Nat) : State := part.setPort .desk { Port.powerOn with notices := (List.range n).map (fun k => .cue (k + 1)) }

theorem witness_notices : ({ Port.powerOn with enCue := false } : Port).admits (.cue 1) = false
    ∧ Notice.cue 1 ∈ ((crowded 31).port .desk).notices ∧ ((crowded 32).port .desk).admits (.source 0) = true
    ∧ Notice.source 0 ∉ ((crowded 32).port .desk).notices ∧ 32 ≤ ((crowded 32).port .desk).notices.length
    ∧ Notice.source 0 ∉ ((crowded 31).port .desk).notices ∧ ((crowded 31).port .desk).notices.length < 32
    ∧ ((crowded 31).port .desk).noticesFit ∧ ((crowded 32).port .desk).noticesFit := by
  unfold Port.noticesFit
  decide +kernel

end Sys2Proof.Tests
end

section
/-! PROOF. What a spec resolves to on a reel map, and how a cue's two results combine (R36, R37). -/

namespace Sys2Proof.Machine

/-! ### The segment of a tag -/

theorem segmentOf_eq_none_iff {m : List Segment} {tag : Nat} : segmentOf m tag = none ↔ ∀ g ∈ m, g.tag ≠ tag := by
  simp [segmentOf, List.find?_eq_none]

theorem mem_and_tag_of_segmentOf {m : List Segment} {tag : Nat} {g : Segment} (h : segmentOf m tag = some g) :
    g ∈ m ∧ g.tag = tag :=
  ⟨List.mem_of_find?_eq_some h, by simpa using List.find?_some h⟩

/-- Where no two segments share a tag, the search finds every member by its tag. -/
theorem segmentOf_tag_of_mem {m : List Segment} (distinct : m.Pairwise (fun g h => g.tag ≠ h.tag)) {g : Segment}
    (hg : g ∈ m) : segmentOf m g.tag = some g := by
  induction m with
  | nil => cases hg
  | cons first rest ih =>
    obtain ⟨head, tail⟩ := List.pairwise_cons.mp distinct
    obtain rfl | hrest := List.mem_cons.mp hg
    · simp [segmentOf]
    · have other : (first.tag == g.tag) = false := beq_false_of_ne (head g hrest)
      rw [segmentOf, List.find?_cons, other]
      exact ih tail hrest

/-! ### The cases of R36 -/

theorem resolveSpec_absolute (m : List Segment) (p : Int) : resolveSpec m (.absolute p) = .ok p := rfl

theorem resolveSpec_story_nil (tag offset : Nat) (anchor : Anchor) :
    resolveSpec [] (.story tag offset anchor) = .error .noMap := rfl

theorem resolveSpec_story_of_no_segment {m : List Segment} {tag : Nat} (hm : m ≠ []) (h : segmentOf m tag = none)
    (offset : Nat) (anchor : Anchor) : resolveSpec m (.story tag offset anchor) = .error .noTag := by
  simp [resolveSpec, hm, h]

section
variable {m : List Segment} {tag offset : Nat} {g : Segment}

theorem ne_nil_of_segmentOf (h : segmentOf m tag = some g) : m ≠ [] :=
  List.ne_nil_of_mem (mem_and_tag_of_segmentOf h).1

theorem resolveSpec_story_of_lt (h : segmentOf m tag = some g) (past : g.length < offset) (anchor : Anchor) :
    resolveSpec m (.story tag offset anchor) = .error .outOfStory := by
  simp [resolveSpec, ne_nil_of_segmentOf h, h, past]

theorem resolveSpec_story_atStart (h : segmentOf m tag = some g) (within : offset ≤ g.length) :
    resolveSpec m (.story tag offset .atStart) = .ok ((g.first : Int) + offset) := by
  simp [resolveSpec, ne_nil_of_segmentOf h, h, Nat.not_lt.mpr within]

/-- The model subtracts in `Nat`; the offset's bound makes that the subtraction of R36. -/
theorem resolveSpec_story_atEnd (h : segmentOf m tag = some g) (within : offset ≤ g.length) :
    resolveSpec m (.story tag offset .atEnd) = .ok ((g.first : Int) + g.length - offset) := by
  have exact_sub : ((g.first + g.length - offset : Nat) : Int) = (g.first : Int) + g.length - offset := by omega
  simp [resolveSpec, ne_nil_of_segmentOf h, h, Nat.not_lt.mpr within, exact_sub]

end

/-- A story position lies between its story's first frame and the frame just after its last. -/
theorem within_story_of_resolveSpec_ok {m : List Segment} {tag offset : Nat} {anchor : Anchor} {p : Int}
    (h : resolveSpec m (.story tag offset anchor) = .ok p) :
    ∃ g ∈ m, g.tag = tag ∧ (g.first : Int) ≤ p ∧ p ≤ (g.first : Int) + g.length := by
  by_cases hm : m = []
  · subst hm
    cases (resolveSpec_story_nil tag offset anchor).symm.trans h
  cases hseg : segmentOf m tag with
  | none => cases (resolveSpec_story_of_no_segment hm hseg offset anchor).symm.trans h
  | some g =>
    obtain ⟨hg, htag⟩ := mem_and_tag_of_segmentOf hseg
    refine ⟨g, hg, htag, ?_⟩
    rcases Nat.lt_or_ge g.length offset with past | within
    · cases (resolveSpec_story_of_lt hseg past anchor).symm.trans h
    · cases anchor with
      | atStart =>
        cases (resolveSpec_story_atStart hseg within).symm.trans h
        omega
      | atEnd =>
        cases (resolveSpec_story_atEnd hseg within).symm.trans h
        omega

theorem MapFits.story_position_range {m : List Segment} (fits : MapFits m) {tag offset : Nat} {anchor : Anchor} {p : Int}
    (h : resolveSpec m (.story tag offset anchor) = .ok p) : 0 ≤ p ∧ p ≤ 131071 := by
  obtain ⟨g, hg, -, low, high⟩ := within_story_of_resolveSpec_ok h
  obtain ⟨-, -, -, last⟩ := fits.values g hg
  omega

/-! ### The two results of a cue -/

theorem combine_trigger_error (trim : Int) (e : UnresReason) (q : Option (Except UnresReason Int)) :
    combine trim (some (.error e)) q = ⟨none, none, some e⟩ := by
  simp only [combine]

theorem combine_picture_error (trim t : Int) (e : UnresReason) :
    combine trim (some (.ok t)) (some (.error e)) = ⟨none, none, some e⟩ := rfl

theorem combine_ok (trim t q : Int) :
    combine trim (some (.ok t)) (some (.ok q)) = ⟨some (clampPos (t + trim)), some q, none⟩ := rfl

/-- A cue with both specs combines its trigger on its subject's map with its picture on its partner's. -/
theorem State.resolution_of_specs (s : State) {c : CueRec} {x : Src} {trigger picture : Spec}
    (htrigger : c.trigger = some trigger) (hpartner : c.partner = some x) (hpicture : c.picture = some picture) :
    s.resolution c
      = combine c.trim (some (resolveSpec (s.map c.subject) trigger)) (some (resolveSpec (s.map x) picture)) := by
  simp [State.resolution, State.pictureMap, htrigger, hpartner, hpicture]

/-- Settles O42: the cases of R36 by the search for the tag's segment, and R37's combination of the two results. -/
theorem storySpecResolves : Obligations.StorySpecResolves := by
  unfold Obligations.StorySpecResolves
  refine ⟨resolveSpec_absolute, fun m tag offset anchor => ⟨?noMap, ?noTag, ?found, ?range⟩, ?cue⟩
  case noMap =>
    rintro rfl
    exact resolveSpec_story_nil tag offset anchor
  case noTag =>
    intro hm others
    exact resolveSpec_story_of_no_segment hm (segmentOf_eq_none_iff.mpr others) offset anchor
  case found =>
    rintro distinct g hg rfl
    have hseg := segmentOf_tag_of_mem distinct hg
    exact ⟨fun past => resolveSpec_story_of_lt hseg past anchor,
      fun within => ⟨resolveSpec_story_atStart hseg within, resolveSpec_story_atEnd hseg within⟩⟩
  case range => exact fun fits _ h => fits.story_position_range h
  case cue =>
    intro s c x trigger picture htrigger hpartner hpicture
    rw [s.resolution_of_specs htrigger hpartner hpicture]
    refine ⟨fun e he => ?_, fun t ht => ⟨fun e he => ?_, fun q hq => ?_⟩⟩
    · rw [he, combine_trigger_error]
    · rw [ht, he, combine_picture_error]
    · rw [ht, hq, combine_ok]
      exact ⟨rfl, rfl, rfl⟩

end Sys2Proof.Machine
end

section
/-! PROOF. The preroll's figures (R87 to R90): both divisions rounded up give least whole numbers, and the ranges of R89 and R90
follow from that. -/

namespace Sys2Proof.Machine

/-! ### The division rounded up -/

/-- A division rounded up is the least number whose product with the divisor reaches the dividend. -/
theorem ceilDiv_le_iff_le_mul_divisor {a b m : Nat} (hb : 0 < b) : ceilDiv a b ≤ m ↔ a ≤ m * b := by
  rw [ceilDiv, Nat.div_le_iff_le_mul_add_pred hb, Nat.mul_comm b m]
  omega

theorem le_ceilDiv_mul_divisor (a : Nat) {b : Nat} (hb : 0 < b) : a ≤ ceilDiv a b * b :=
  (ceilDiv_le_iff_le_mul_divisor hb).mp (Nat.le_refl _)

/-! ### The fields of a computation -/

theorem prerollOf_short_iff (t q s : Int) (o inc : Source) (margin : Nat) :
    (prerollOf t q s o inc margin).short = true ↔ q - s < inc.travel :=
  decide_eq_true_iff

theorem prerollOf_window (t q s : Int) (o inc : Source) (margin : Nat) :
    (prerollOf t q s o inc margin).window
      = inc.runUp + ceilDiv ((leaderFrames q s inc.travel - inc.travel) * 100000) inc.n + margin := rfl

theorem prerollOf_start (t q s : Int) (o inc : Source) (margin : Nat) :
    (prerollOf t q s o inc margin).start
      = startPointOf t (outgoingSpan (prerollOf t q s o inc margin).window (outgoingRate o)) := rfl

theorem outgoingRate_eq (o : Source) : outgoingRate o = if o.state = .atSpeed then o.rate else o.n := by
  simp only [outgoingRate, beq_iff_eq]

/-! ### The outgoing span and the start point (R90) -/

theorem outgoingSpan_le_iff {window rate m : Nat} : outgoingSpan window rate ≤ m ↔ window * rate ≤ m * 100000 :=
  ceilDiv_le_iff_le_mul_divisor (by decide)

theorem le_outgoingSpan_mul (window rate : Nat) : window * rate ≤ outgoingSpan window rate * 100000 :=
  outgoingSpan_le_iff.mp (Nat.le_refl _)

/-- R90's bound, attained by the longest window at the highest rate. -/
theorem outgoingSpan_le_range {window rate : Nat} (hw : window ≤ 317000) (hr : rate ≤ 6000) :
    outgoingSpan window rate ≤ 19020 :=
  outgoingSpan_le_iff.mpr <| calc
    window * rate ≤ 317000 * 6000 := Nat.mul_le_mul hw hr
    _ = 19020 * 100000 := rfl

theorem startPointOf_eq (t : Int) (span : Nat) : startPointOf t span = max (-8192) (t - span) := rfl

theorem startPointOf_range {t : Int} (ht : t ≤ 131071) (span : Nat) :
    -8192 ≤ startPointOf t span ∧ startPointOf t span ≤ 131071 := by
  rw [startPointOf_eq]
  omega

theorem startPointOf_of_lt {t : Int} {span : Nat} (h : t - span < -8192) : startPointOf t span = -8192 := by
  rw [startPointOf_eq]
  omega

/-! ### The run from the leader to the picture (R89) -/

/-- At 1600 or more the frames of the longest leader pass in 300000 ms. -/
theorem leaderTime_le_range {leader travel n : Nat} (hn : 1600 ≤ n) (hleader : leader ≤ 4800) :
    ceilDiv ((leader - travel) * 100000) n ≤ 300000 := by
  rw [ceilDiv_le_iff_le_mul_divisor (by omega)]
  calc (leader - travel) * 100000 ≤ 300000 * 1600 := by omega
    _ ≤ 300000 * n := Nat.mul_le_mul_left _ hn

/-- Settles O48: the incoming time and the outgoing span by the law of the division rounded up, their ranges by its values at
the ends of R89's and R90's ranges. -/
theorem prerollFiguresRoundUp : Obligations.PrerollFiguresRoundUp := by
  unfold Obligations.PrerollFiguresRoundUp
  intro t q s o inc margin hn figures leader rate
  have hwindow : figures.window = inc.runUp + ceilDiv ((leader - inc.travel) * 100000) inc.n + margin :=
    prerollOf_window t q s o inc margin
  have hstart : figures.start = startPointOf t (outgoingSpan figures.window rate) := by
    rw [prerollOf_start, outgoingRate_eq]
  refine ⟨prerollOf_short_iff t q s o inc margin, ⟨_, hwindow, ?timeReaches, ?timeLeast, ?timeRange⟩,
    ⟨_, hstart, ?spanReaches, ?spanLeast, ?spanRange, ?startRange, ?clamp⟩⟩
  case timeReaches => exact le_ceilDiv_mul_divisor _ hn
  case timeLeast => exact fun m => (ceilDiv_le_iff_le_mul_divisor hn).mpr
  case timeRange =>
    intro nominal runUp longest
    have htime := leaderTime_le_range (travel := inc.travel) nominal longest
    exact ⟨htime, by omega, fun hmargin => by omega⟩
  case spanReaches => exact le_outgoingSpan_mul _ _
  case spanLeast => exact fun m => outgoingSpan_le_iff.mpr
  case spanRange => exact outgoingSpan_le_range
  case startRange => exact fun ht => hstart ▸ startPointOf_range ht _
  case clamp => exact fun low p hp => Int.le_trans (Int.le_of_eq (hstart.trans (startPointOf_of_lt low))) hp

end Sys2Proof.Machine
end

section
/-! PROOF. What a raise leaves of the alarm unit (R137 to R140), when the bell sounds (R141), and SILENCE BELL (R142). -/

namespace Sys2Proof.Machine

/-! ### The bell (R141) -/

theorem AlarmUnit.bell_iff (a : AlarmUnit) : a.bell = true
    ↔ ((∃ r ∈ a.records, r.severity = .urgent ∧ r.unseen = true) ∨ a.overflow = true) ∧ a.silence = false := by
  simp [AlarmUnit.bell]

theorem AlarmUnit.bell_of_silence {a : AlarmUnit} (h : a.silence = true) : a.bell = false := by
  simp [AlarmUnit.bell, h]

/-! ### A record raised again (R137 to R139) -/

theorem AlarmRec.again_severity_of_urgent {r : AlarmRec} (h : r.severity = .urgent) (sev : Severity)
    (cueId : Option Nat) : (r.again sev cueId).severity = .urgent := by
  simp [AlarmRec.again, h]

theorem AlarmRec.again_unseen (r : AlarmRec) (sev : Severity) (cueId : Option Nat) :
    (r.again sev cueId).unseen = true := rfl

/-! ### The alarm unit after a raise: raised again, a new record, or the overflow flag (R137, R140) -/

section
variable {s : State} {o : AlarmObj} {c : Cause} (sev : Severity) (captured : Option Int) (cueId : Option Nat)

theorem State.raise_alarms_of_some {r : AlarmRec} (h : s.alarm o c = some r) :
    (s.raise o c sev captured cueId).alarms = { s.alarms with
      silence := false
      records := s.alarms.records.map (fun u => if u.isKey o c then u.again sev cueId else u) } := by
  have found : State.alarm { s with alarms := { s.alarms with silence := false } } o c = some r := h
  simp [State.raise, found, State.setAlarm]

theorem State.raise_alarms_of_room (h : s.alarm o c = none) (room : s.alarms.records.length < maxAlarms) :
    (s.raise o c sev captured cueId).alarms = { s.alarms with
      silence := false
      records := s.alarms.records ++ [⟨o, c, sev, .raised, 1, captured, cueId⟩] } := by
  have missing : State.alarm { s with alarms := { s.alarms with silence := false } } o c = none := h
  simp [State.raise, missing, room]

theorem State.raise_alarms_of_full (h : s.alarm o c = none) (full : ¬ s.alarms.records.length < maxAlarms) :
    (s.raise o c sev captured cueId).alarms = { s.alarms with silence := false, overflow := true } := by
  have missing : State.alarm { s with alarms := { s.alarms with silence := false } } o c = none := h
  simp [State.raise, missing, full]

end

section
variable (s : State) (o : AlarmObj) (c : Cause) (sev : Severity) (captured : Option Int) (cueId : Option Nat)

/-- Nothing else comes of a raise. -/
theorem State.raise_alarms_cases :
    ((∃ r, s.alarm o c = some r) ∧ (s.raise o c sev captured cueId).alarms = { s.alarms with
      silence := false
      records := s.alarms.records.map (fun u => if u.isKey o c then u.again sev cueId else u) })
    ∨ (s.alarm o c = none ∧ s.alarms.records.length < maxAlarms
      ∧ (s.raise o c sev captured cueId).alarms = { s.alarms with
        silence := false
        records := s.alarms.records ++ [⟨o, c, sev, .raised, 1, captured, cueId⟩] })
    ∨ (s.alarm o c = none ∧ ¬ s.alarms.records.length < maxAlarms
      ∧ (s.raise o c sev captured cueId).alarms = { s.alarms with silence := false, overflow := true }) := by
  cases h : s.alarm o c with
  | some r => exact .inl ⟨⟨r, rfl⟩, State.raise_alarms_of_some sev captured cueId h⟩
  | none =>
    by_cases room : s.alarms.records.length < maxAlarms
    · exact .inr (.inl ⟨rfl, room, State.raise_alarms_of_room sev captured cueId h room⟩)
    · exact .inr (.inr ⟨rfl, room, State.raise_alarms_of_full sev captured cueId h room⟩)

@[simp] theorem State.raise_silence : (s.raise o c sev captured cueId).alarms.silence = false := by
  obtain ⟨-, again⟩ | ⟨-, -, grown⟩ | ⟨-, -, full⟩ := s.raise_alarms_cases o c sev captured cueId
  · rw [again]
  · rw [grown]
  · rw [full]

variable {s}

/-- A raise lowers no severity and acknowledges nothing, so an URGENT record stays one that sounds the bell. -/
theorem State.raise_keeps_urgent_unseen (h : ∃ r ∈ s.alarms.records, r.severity = .urgent ∧ r.unseen = true) :
    ∃ r ∈ (s.raise o c sev captured cueId).alarms.records, r.severity = .urgent ∧ r.unseen = true := by
  obtain ⟨r, hr, urgent, unseen⟩ := h
  obtain ⟨-, again⟩ | ⟨-, -, grown⟩ | ⟨-, -, full⟩ := s.raise_alarms_cases o c sev captured cueId
  · rw [again]
    refine ⟨_, List.mem_map_of_mem hr, ?_⟩
    split
    · exact ⟨AlarmRec.again_severity_of_urgent urgent sev cueId, AlarmRec.again_unseen r sev cueId⟩
    · exact ⟨urgent, unseen⟩
  · rw [grown]
    exact ⟨r, List.mem_append_left _ hr, urgent, unseen⟩
  · rw [full]
    exact ⟨r, hr, urgent, unseen⟩

theorem State.raise_bell_of_urgent_unseen (h : ∃ r ∈ s.alarms.records, r.severity = .urgent ∧ r.unseen = true) :
    (s.raise o c sev captured cueId).alarms.bell = true :=
  (AlarmUnit.bell_iff _).mpr
    ⟨.inl (State.raise_keeps_urgent_unseen o c sev captured cueId h), s.raise_silence o c sev captured cueId⟩

end

/-! ### SILENCE BELL (R142) -/

theorem exec_silenceBell {s : State} {p : Link} (ht : s.takes p = true) : exec (.silenceBell p []) s
    = .next (({ s with alarms := { s.alarms with silence := true } } : State).answered p 0x52 .done []) := by
  have carried := s.runCommand_of_takes p [] silenceBellCommand ht (by decide)
  calc exec (.silenceBell p []) s = .next (s.runCommand silenceBellCommand p []) := rfl
    _ = .next ((silenceBellCommand.body p [] (s.enterAnswer p)).send p silenceBellCommand.code) := by rw [carried]
    _ = .next (({ s with alarms := { s.alarms with silence := true } } : State).answered p 0x52 .done []) := by
      cases p <;> rfl

/-- Settles O56: the command sets the flag alone; a raise of either severity clears it and keeps every URGENT record that
sounds the bell. -/
theorem silenceBellUntilTheNextRaise : Obligations.SilenceBellUntilTheNextRaise := by
  unfold Obligations.SilenceBellUntilTheNextRaise
  intro s p ht
  refine ⟨exec_silenceBell ht, _, exec_silenceBell ht, ?bellOff, ?lampStays, fun o c sev pos cueId => ⟨?cleared, ?rings⟩⟩
  case bellOff => exact AlarmUnit.bell_of_silence (by rw [State.answered_alarms])
  case lampStays =>
    rw [State.answered_alarms]
    rfl
  case cleared => exact State.raise_silence _ o c sev pos cueId
  case rings => exact State.raise_bell_of_urgent_unseen o c sev pos cueId

end Sys2Proof.Machine
end

section
/-! PROOF. The passing of control (R150, R153 to R155): what a move of control does and leaves as it was, the checks of the three
commands in their order, and what a posted notice leaves. -/

namespace Sys2Proof.Machine

/-! ### A notice that is posted (R166) -/

theorem Port.mem_post {q : Port} {m : Notice} (admitted : q.admits m = true) (room : q.notices.length < maxNotices) :
    m ∈ (q.post m).notices := by
  by_cases old : m ∈ q.notices
  · simp [Port.post, admitted, old]
  · simp [Port.post, admitted, old, Nat.not_le.mpr room]

theorem State.post_butNotices (s : State) (m : Notice) : ButNotices s (s.post m) :=
  ⟨fun l => by rw [State.post_port, Port.post_kept], rfl⟩

theorem ButNotices.refl (s : State) : ButNotices s s := ⟨fun _ => rfl, rfl⟩

/-! ### A port that takes a frame and answers (R160, R163) -/

section
variable (s : State) (p l : Link) (i : Isl) (v : Island) (m : Notice) (code : Byte) (st : Status) (data : List Byte)

@[simp] theorem State.enterAnswer_isl : (s.enterAnswer p).isl i = s.isl i := by simp [State.enterAnswer]

@[simp] theorem State.enterAnswer_eng : (s.enterAnswer p).eng i = s.eng i := by simp [State.enterAnswer]

@[simp] theorem State.enterAnswer_primaryLink : (s.enterAnswer p).primaryLink = s.primaryLink := by simp [State.enterAnswer]

theorem State.enterAnswer_setIsl : (s.enterAnswer p).setIsl i v = (s.setIsl i v).enterAnswer p := by cases p <;> rfl

@[simp] theorem State.answered_port_notices : ((s.answered p code st data).port l).notices = (s.port l).notices := by
  cases p <;> cases l <;> rfl

@[simp] theorem State.answered_port_admits : ((s.answered p code st data).port l).admits m = (s.port l).admits m := by
  cases p <;> cases l <;> cases m <;> rfl

theorem Port.post_response (q : Port) (bytes : List Byte) :
    { q with response := bytes }.post m = { q.post m with response := bytes } := by
  have admits : Port.admits { q with response := bytes } m = q.admits m := by cases m <;> rfl
  simp only [Port.post, admits]
  repeat' split
  all_goals rfl

/-- The notices of a command and its response are held apart, so that either may be stored first. -/
theorem State.post_respond : (s.post m).respond p code st data = (s.respond p code st data).post m := by
  cases p
  case desk => exact congrArg (fun q => { s.post m with desk := q }) (Port.post_response m s.desk _).symm
  case panel => exact congrArg (fun q => { s.post m with panel := q }) (Port.post_response m s.panel _).symm

theorem State.setIsl_isl_eq_self : s.setIsl i (s.isl i) = s := by simp [State.setIsl, State.isl]

theorem State.accept_send : s.accept.send p code = s.respond p code .done [] := rfl

end

/-! ### The move of control (R150) -/

/-- Control of island `i` has passed to `q` and the command is answered DONE at `p`: the controlling link and the answer aside,
only notices have come, among them the ISLAND notice wherever control changed and a port had a place for it (R150, R166). -/
def State.ControlMoved (s : State) (p : Link) (code : Byte) (i : Isl) (q : Link) (t : State) : Prop :=
  ButNotices ((s.setIsl i { s.isl i with control := q }).answered p code .done []) t
  ∧ ((s.isl i).control ≠ q → ∀ l, (s.port l).enIsland = true → (s.port l).notices.length < maxNotices →
    .island i ∈ (t.port l).notices)

theorem State.moveControl_of_eq {s : State} {i : Isl} {q : Link} (h : (s.isl i).control = q) : s.moveControl i q = s :=
  if_pos h

theorem State.moveControl_of_ne {s : State} {i : Isl} {q : Link} (h : (s.isl i).control ≠ q) :
    s.moveControl i q = (s.setIsl i { s.isl i with control := q }).post (.island i) :=
  if_neg h

/-- Control that stays where it was leaves the island as it is; control that moves is stored and noticed. -/
theorem State.moveControl_controlMoved (s : State) (p : Link) (code : Byte) (i : Isl) (q : Link) :
    s.ControlMoved p code i q (((s.enterAnswer p).moveControl i q).accept.send p code) := by
  rw [State.accept_send]
  by_cases stays : (s.isl i).control = q
  · rw [State.moveControl_of_eq (by rw [State.enterAnswer_isl]; exact stays)]
    refine ⟨?_, fun moves => absurd stays moves⟩
    rw [← stays, State.setIsl_isl_eq_self]
    exact .refl _
  · rw [State.moveControl_of_ne (by rw [State.enterAnswer_isl]; exact stays), State.enterAnswer_isl,
      State.enterAnswer_setIsl, State.post_respond, State.enterAnswer_respond]
    refine ⟨State.post_butNotices _ _, fun _ l enabled room => ?_⟩
    have admitted : (s.port l).admits (.island i) = true := enabled
    rw [State.post_port]
    exact Port.mem_post (by simpa using admitted) (by simpa using room)

/-! ### The checks of the three commands in their order -/

theorem islOf_numByte (i : Isl) : islOf (numByte i).toNat = some i := by
  revert i
  decide

/-- The engine states that let control be taken (R154). -/
theorem EngState.committed_eq_false_iff (e : EngState) : e.committed = false ↔ e = .idle ∨ e = .armed := by
  cases e <;> decide

section
variable (s : State) (p : Link)

theorem giveControlBody_of_bad_island {b : Byte} (h : islOf b.toNat = none) :
    giveControlBody p [b] s = s.refuse .badValue := by
  have bad : islOf (natAt [b] 0) = none := h
  simp [giveControlBody, State.onIsland, bad]

theorem takeControlBody_of_bad_island {b : Byte} (h : islOf b.toNat = none) :
    takeControlBody p [b] s = s.refuse .badValue := by
  have bad : islOf (natAt [b] 0) = none := h
  simp [takeControlBody, bad]

theorem seizeControlBody_of_bad_island {b : Byte} (h : islOf b.toNat = none) :
    seizeControlBody p [b] s = s.refuse .badValue := by
  have bad : islOf (natAt [b] 0) = none := h
  simp [seizeControlBody, bad]

variable (i : Isl)

theorem giveControlBody_numByte : giveControlBody p [numByte i] s
    = if (s.isl i).control = p then (s.moveControl i p.other).accept else s.refuse .notInControl := by
  have found : islOf (natAt [numByte i] 0) = some i := islOf_numByte i
  by_cases h : (s.isl i).control = p <;>
    simp [giveControlBody, State.onIsland, found, State.checked_cons, State.controls, h]

theorem takeControlBody_numByte : takeControlBody p [numByte i] s
    = if (s.isl i).control = p then s.accept
      else if (s.eng i).state.committed then s.refuse .busy else (s.moveControl i p).accept := by
  have found : islOf (natAt [numByte i] 0) = some i := islOf_numByte i
  simp [takeControlBody, found, State.checked_cons, State.controls]

theorem seizeControlBody_numByte : seizeControlBody p [numByte i] s
    = if p = s.primaryLink then (s.moveControl i p).accept else s.refuse .notPrimary := by
  have found : islOf (natAt [numByte i] 0) = some i := islOf_numByte i
  by_cases h : p = s.primaryLink <;> simp [seizeControlBody, found, State.checked_cons, h]

end

section
variable {s : State} {p : Link} (ht : s.takes p = true) (b : Byte)
include ht

theorem exec_giveControl : exec (.giveControl p [b]) s
    = .next ((giveControlBody p [b] (s.enterAnswer p)).send p 0x60) :=
  congrArg _ (s.runCommand_of_takes p [b] giveControlCommand ht (List.mem_singleton_self 1))

theorem exec_takeControl : exec (.takeControl p [b]) s
    = .next ((takeControlBody p [b] (s.enterAnswer p)).send p 0x61) :=
  congrArg _ (s.runCommand_of_takes p [b] takeControlCommand ht (List.mem_singleton_self 1))

theorem exec_seizeControl : exec (.seizeControl p [b]) s
    = .next ((seizeControlBody p [b] (s.enterAnswer p)).send p 0x62) :=
  congrArg _ (s.runCommand_of_takes p [b] seizeControlCommand ht (List.mem_singleton_self 1))

end

/-- Settles O57: each command's outcome is the first of its checks that fails, and a command that passes them moves control. -/
theorem controlIsGivenTakenAndSeized : Obligations.ControlIsGivenTakenAndSeized := by
  unfold Obligations.ControlIsGivenTakenAndSeized
  intro s p b ht moved
  refine ⟨fun bad => ⟨?giveBad, ?takeBad, ?seizeBad⟩, fun i =>
    ⟨fun other => ?giveRefused, fun own => ?given, fun own => ?takeOwn, fun other notIdle notArmed => ?takeBusy,
      fun other free => ?taken, fun second => ?seizeRefused, fun primary => ?seized, fun primary own => ?seizeOwn⟩⟩
  case giveBad => rw [exec_giveControl ht, giveControlBody_of_bad_island _ _ bad, State.refuse_send]
  case takeBad => rw [exec_takeControl ht, takeControlBody_of_bad_island _ _ bad, State.refuse_send]
  case seizeBad => rw [exec_seizeControl ht, seizeControlBody_of_bad_island _ _ bad, State.refuse_send]
  case giveRefused =>
    rw [exec_giveControl ht, giveControlBody_numByte, State.enterAnswer_isl, if_neg other, State.refuse_send]
  case given =>
    rw [exec_giveControl ht, giveControlBody_numByte, State.enterAnswer_isl, if_pos own]
    exact ⟨_, rfl, s.moveControl_controlMoved p 0x60 i p.other⟩
  case takeOwn =>
    rw [exec_takeControl ht, takeControlBody_numByte, State.enterAnswer_isl, if_pos own, State.accept_send,
      State.enterAnswer_respond]
  case takeBusy =>
    have committed : (s.eng i).state.committed = true := by
      rw [← Bool.not_eq_false, EngState.committed_eq_false_iff]
      exact not_or.mpr ⟨notIdle, notArmed⟩
    rw [exec_takeControl ht, takeControlBody_numByte, State.enterAnswer_isl, if_neg other, State.enterAnswer_eng,
      if_pos committed, State.refuse_send]
  case taken =>
    have free : ¬ (s.eng i).state.committed = true := by
      rw [Bool.not_eq_true, EngState.committed_eq_false_iff]
      exact free
    rw [exec_takeControl ht, takeControlBody_numByte, State.enterAnswer_isl, if_neg other, State.enterAnswer_eng,
      if_neg free]
    exact ⟨_, rfl, s.moveControl_controlMoved p 0x61 i p⟩
  case seizeRefused =>
    rw [exec_seizeControl ht, seizeControlBody_numByte, State.enterAnswer_primaryLink, if_neg second, State.refuse_send]
  case seized =>
    rw [exec_seizeControl ht, seizeControlBody_numByte, State.enterAnswer_primaryLink, if_pos primary]
    exact ⟨_, rfl, s.moveControl_controlMoved p 0x62 i p⟩
  case seizeOwn =>
    have stays : ((s.enterAnswer p).isl i).control = p := by rw [State.enterAnswer_isl, own]
    rw [exec_seizeControl ht, seizeControlBody_numByte, State.enterAnswer_primaryLink, if_pos primary,
      State.moveControl_of_eq stays, State.accept_send, State.enterAnswer_respond]

end Sys2Proof.Machine
end

section
/-! PROOF. The four outcomes of a notice at a port, and the bound of its set (R166, R169). -/

namespace Sys2Proof.Machine

/-! ### The outcomes of a post -/

section
variable {q : Port} {m : Notice}

theorem Port.post_of_not_admits (dropped : q.admits m = false) : q.post m = q := by
  simp [Port.post, dropped]

theorem Port.post_of_mem (standing : m ∈ q.notices) : q.post m = q := by
  simp [Port.post, standing]

theorem Port.post_of_full (admitted : q.admits m = true) (new : m ∉ q.notices) (full : maxNotices ≤ q.notices.length) :
    q.post m = { q with overflow := true } := by
  simp [Port.post, admitted, new, full]

theorem Port.post_of_room (admitted : q.admits m = true) (new : m ∉ q.notices) (room : q.notices.length < maxNotices) :
    q.post m = { q with notices := q.notices ++ [m] } := by
  simp [Port.post, admitted, new, Nat.not_le.mpr room]

/-- A set grows only by a notice unlike all in it, at the end of a set that has room. -/
theorem Port.post_notices_cases (q : Port) (m : Notice) :
    (q.post m).notices = q.notices
    ∨ (m ∉ q.notices ∧ q.notices.length < maxNotices ∧ (q.post m).notices = q.notices ++ [m]) := by
  by_cases standing : m ∈ q.notices
  · exact .inl (by rw [Port.post_of_mem standing])
  cases admitted : q.admits m with
  | false => exact .inl (by rw [Port.post_of_not_admits admitted])
  | true =>
    rcases Nat.lt_or_ge q.notices.length maxNotices with room | full
    · exact .inr ⟨standing, room, by rw [Port.post_of_room admitted standing room]⟩
    · exact .inl (by rw [Port.post_of_full admitted standing full])

/-! ### The bound of the set (R166) and the attention line (R169) -/

theorem Port.post_noticesFit (fits : q.noticesFit) : (q.post m).noticesFit := by
  obtain ⟨bounded, distinct⟩ := fits
  unfold Port.noticesFit
  obtain kept | ⟨new, room, grown⟩ := q.post_notices_cases m
  · rw [kept]
    exact ⟨bounded, distinct⟩
  · rw [grown, List.length_append, List.length_singleton]
    exact ⟨room, (List.perm_append_singleton m q.notices).nodup_iff.mpr (List.nodup_cons.mpr ⟨new, distinct⟩)⟩

theorem Port.attention_iff (q : Port) : q.attention = true ↔ q.notices ≠ [] ∨ q.overflow = true := by
  simp [Port.attention]

end

/-- Settles O60: the cases are the branches of the post at the port itself, and the set grows in the last of them alone. -/
theorem noticesAreCoalescedAndBounded : Obligations.NoticesAreCoalescedAndBounded := by
  unfold Obligations.NoticesAreCoalescedAndBounded
  intro s m p q t
  have posted : t = q.post m := s.post_port m p
  rw [posted]
  refine ⟨fun idle => ?unchanged, fun admitted new full => ?lost, fun admitted new room => ?added, Port.post_noticesFit⟩
  case unchanged => exact idle.elim Port.post_of_not_admits Port.post_of_mem
  case lost =>
    rw [Port.post_of_full admitted new full]
    exact ⟨rfl, (Port.attention_iff _).mpr (.inr rfl)⟩
  case added =>
    rw [Port.post_of_room admitted new room]
    exact ⟨rfl, (Port.attention_iff _).mpr (.inl (List.append_ne_nil_of_right_ne_nil _ (List.cons_ne_nil m [])))⟩

end Sys2Proof.Machine
end
